-- ==== Sys2Proof/Word.lean ====
section
/-! DEFINITION. The two word types of the machine (00_scope.md R7, R9, R10). -/

namespace Sys2Proof

/-- An 8-bit value: a general register, a memory byte, a port byte, an opcode (R7). Bit 0 is the least significant (R9). -/
abbrev Byte := BitVec 8

/-- A 16-bit value: PC, SP, an address, a register pair (R7). Addition on it is `trunc16` of the exact sum (R10). -/
abbrev Word := BitVec 16

end Sys2Proof
end

