-- ==== Sys2Proof/Machine/Fields.lean ====
section
/-! DEFINITION. The operand codes of the opcode byte: 8-bit register code, pair code, stack-pair code, condition
code, ALU operation (10_state.md R33, R34; 30_encoding.md R94, R101; 42_branch.md R210). Each code is read from
its bits, most significant first; every combination of bits is a code. -/

namespace Sys2Proof.Machine

/-- The 3-bit register code r (R33); `m` is `memory[HL]`. Codes of C, D, E, H, L: PRESUMED by the spec (G1), log 12. -/
inductive Reg8 where
  | b | c | d | e | h | l | m | a
  deriving DecidableEq, Repr

/-- R33: B=000, C=001, D=010, E=011, H=100, L=101, M=110, A=111. -/
def Reg8.ofBits (b2 b1 b0 : Bool) : Reg8 :=
  match b2, b1, b0 with
  | false, false, false => .b
  | false, false, true  => .c
  | false, true,  false => .d
  | false, true,  true  => .e
  | true,  false, false => .h
  | true,  false, true  => .l
  | true,  true,  false => .m
  | true,  true,  true  => .a

/-- The 2-bit register-pair code p (R34). -/
inductive RegPair where
  | bc | de | hl | sp
  deriving DecidableEq, Repr

/-- R34: BC=00, DE=01, HL=10, SP=11. -/
def RegPair.ofBits (b1 b0 : Bool) : RegPair :=
  match b1, b0 with
  | false, false => .bc
  | false, true  => .de
  | true,  false => .hl
  | true,  true  => .sp

/-- The pair code of PUSH and POP, where 11 is PSW (R101). -/
inductive StackPair where
  | bc | de | hl | psw
  deriving DecidableEq, Repr

/-- R101: the separate table of PUSH and POP. -/
def StackPair.ofBits (b1 b0 : Bool) : StackPair :=
  match b1, b0 with
  | false, false => .bc
  | false, true  => .de
  | true,  false => .hl
  | true,  true  => .psw

/-- The 3-bit condition code (R210). -/
inductive Cond where
  | nz | z | nc | c | po | pe | p | m
  deriving DecidableEq, Repr

/-- R210: NZ=0, Z=1, NC=2, C=3, PO=4, PE=5, P=6, M=7. -/
def Cond.ofBits (b2 b1 b0 : Bool) : Cond :=
  match b2, b1, b0 with
  | false, false, false => .nz
  | false, false, true  => .z
  | false, true,  false => .nc
  | false, true,  true  => .c
  | true,  false, false => .po
  | true,  false, true  => .pe
  | true,  true,  false => .p
  | true,  true,  true  => .m

/-- The 3-bit ALU operation of opcodes 10aaasss and 11aaa110 (R94). -/
inductive AluOp where
  | add | adc | sub | sbb | ana | xra | ora | cmp
  deriving DecidableEq, Repr

/-- R94: ADD=000, ADC=001, SUB=010, SBB=011, ANA=100, XRA=101, ORA=110, CMP=111. -/
def AluOp.ofBits (b2 b1 b0 : Bool) : AluOp :=
  match b2, b1, b0 with
  | false, false, false => .add
  | false, false, true  => .adc
  | false, true,  false => .sub
  | false, true,  true  => .sbb
  | true,  false, false => .ana
  | true,  false, true  => .xra
  | true,  true,  false => .ora
  | true,  true,  true  => .cmp

end Sys2Proof.Machine
end

