-- ==== Sys2Proof/Machine/Bits.lean ====
section
/-! DEFINITION. Byte order and bit fields: halves of a 16-bit value and the fields of an opcode byte
(00_scope.md R10, R12; 30_encoding.md R91). -/

namespace Sys2Proof.Machine

/-- `concat16(h, l) = h * 256 + l` (R10). -/
def concat16 (h l : Byte) : Word := h ++ l

/-- `v[7:0]` of a 16-bit value. -/
def lowByte (v : Word) : Byte := v.extractLsb' 0 8

/-- `v[15:8]` of a 16-bit value. -/
def highByte (v : Word) : Byte := v.extractLsb' 8 8

/-- `parity(x)`: the number of 1 bits of the byte is even (R14). -/
def parity (x : Byte) : Bool :=
  ((x.getLsbD 0).toNat + (x.getLsbD 1).toNat + (x.getLsbD 2).toNat + (x.getLsbD 3).toNat
    + (x.getLsbD 4).toNat + (x.getLsbD 5).toNat + (x.getLsbD 6).toNat + (x.getLsbD 7).toNat) % 2 == 0

end Sys2Proof.Machine
end

