-- ==== Sys2Proof/Config.lean ====
section
/-! DEFINITION. What is fixed for a machine: the parameters of 00_scope.md R8, and the two values the spec
leaves open (uninterpreted constants: nothing can evaluate them). -/

namespace Sys2Proof

/-- Which DAA algorithm the machine has (41_arith_logic_rotate.md R174, D5). -/
inductive DaaVariant where
  | docSequential
  | intel8080
  deriving DecidableEq, Repr

/-- Unit of the count a step returns (70_reset_and_hazards.md R345, D9). -/
inductive CycleUnit where
  | machineCycles
  | tStates
  deriving DecidableEq, Repr

/-- The named parameters of R8 that have a default. They are fixed for a machine; State carries them so that
statements hold for every setting (DESIGN CHOICE, safe: log 1). -/
structure Params where
  eiDeferred : Bool
  daaVariant : DaaVariant
  cycleUnit  : CycleUnit
  deriving DecidableEq, Repr

/-- The defaults of R8: EI_DEFERRED = false, DAA_VARIANT = DOC_SEQUENTIAL, CYCLE_UNIT = MACHINE_CYCLES. -/
def Params.specDefault : Params :=
  { eiDeferred := false, daaVariant := .docSequential, cycleUnit := .machineCycles }

/-- `IN_UNMAPPED`: the byte IN returns from port `p` in 4..255 at the `k`-th such read, a free draw per read
(44_arcade_io_shim.md R263, D3, I3). DESIGN CHOICE, safe: log 2. -/
opaque Config.inUnmapped : Nat → Byte → Byte

/-- `HALT_CYCLES`: the count a halted step returns, which the source does not give (60_exceptions.md R295, D8).
DESIGN CHOICE, safe: log 3. -/
opaque Config.haltCycles : Nat

end Sys2Proof
end

