-- ==== Sys2Proof/Machine/State.lean ====
section
/-! DEFINITION. The state of the machine, as plain data (10_state.md R30-R56), the reasons a move can stop, and the
state right after reset. -/

namespace Sys2Proof.Machine

/-- The 64 KiB memory (R51) as the list of its bytes that are not 0x00, addresses rising: what an unlisted address
reads as is 0x00, its reset value (R56). The canonical form is `Memory.wf` (Machine/Ops.lean). -/
abbrev Memory := List Host.Cell

/-- The seven general registers (R31). -/
structure Regs where
  a : BitVec 8
  b : BitVec 8
  c : BitVec 8
  d : BitVec 8
  e : BitVec 8
  h : BitVec 8
  l : BitVec 8
  deriving DecidableEq, Repr

/-- The five flags Z, S, P, CY, AC (R39-R43). -/
structure Flags where
  zero     : Bool
  sign     : Bool
  parity   : Bool
  carry    : Bool
  auxCarry : Bool
  deriving DecidableEq, Repr

/-- The ArcadeIoShim: the three input latches and the shift hardware (R52-R54). -/
structure Shim where
  inputPort0    : BitVec 8
  inputPort1    : BitVec 8
  inputPort2    : BitVec 8
  shiftRegister : BitVec 16
  shiftOffset   : BitVec 3
  deriving DecidableEq, Repr

/-- `UnimplementedOpcode(op, addr)`: the report of the fatal error (R49, 60_exceptions.md R280). -/
structure FaultRecord where
  op   : BitVec 8
  addr : BitVec 16
  deriving DecidableEq, Repr

/-- Everything the spec gives the machine (R30, R48, R49), the parameters of R8 (log 1), and the model's own counter of
free draws (log 2). -/
structure State where
  regs              : Regs
  pc                : BitVec 16
  sp                : BitVec 16
  flags             : Flags
  interruptsEnabled : Bool
  halted            : Bool
  eiPending         : Bool
  fault             : Option FaultRecord
  mem               : Memory
  io                : Shim
  params            : Params
  draws             : Nat
  deriving DecidableEq, Repr

/-- Why the machine stops with a fault. -/
inductive Fault where
  /-- Raised by `step`, and by a host write of an input latch, in a state whose `fault` field already holds this
  record: such a state has no step (R49, R280). Safe: the spec gives the faulted state no move. -/
  | unimplementedOpcode (op : BitVec 8) (addr : BitVec 16)
  deriving DecidableEq, Repr

/-- Why a move has no meaning. No instruction raises any of these. -/
inductive Refusal where
  /-- An instruction whose arm of `exec` gives it no meaning yet; raised by no arm of this model. Safe. -/
  | notModelled (mnemonic : String)
  /-- Raised by the host action `raise_interrupt(n)` for n outside 0..7: the host has no such move (60_exceptions.md
  R290, D7, I7). Safe. -/
  | interruptNumber (n : Nat)
  /-- Raised by a host write to an input latch other than 0, 1, 2 (60_exceptions.md R306). Safe. -/
  | inputIndex (i : Nat)
  /-- Raised by `launch` for an image of more than 65536 bytes (70_reset_and_hazards.md R333, D11, I8). Safe. -/
  | romImageTooLong (length : Nat)
  deriving DecidableEq, Repr

/-- The three outcomes of a move of this machine. -/
abbrev Result := Host.Outcome State Fault Refusal

/-- The machine right after reset with no ROM image: every value of R56, memory all 0x00 (R332), parameters at their
defaults (R8). -/
def State.reset : State :=
  { regs := { a := 0x00#8, b := 0x00#8, c := 0x00#8, d := 0x00#8, e := 0x00#8, h := 0x00#8, l := 0x00#8 }
    pc := 0x0000#16
    sp := 0xF000#16
    flags := { zero := false, sign := false, parity := false, carry := false, auxCarry := false }
    interruptsEnabled := false
    halted := false
    eiPending := false
    fault := none
    mem := []
    io := { inputPort0 := 0x00#8, inputPort1 := 0x00#8, inputPort2 := 0x00#8, shiftRegister := 0x0000#16, shiftOffset := 0#3 }
    params := Params.specDefault
    draws := 0 }

end Sys2Proof.Machine
end

