-- ==== Sys2Proof/Machine/Flags.lean ====
section
/-! DEFINITION. Every flag computation: the ALU helpers add8, sub8, add16, the flag triple zsp, the logical flags, the
decimal adjust, the flag byte of PSW (41_arith_logic_rotate.md R150-R154, R174-R176; 10_state.md R44, R45). Sums
are exact, on natural numbers, and narrowed once. -/

namespace Sys2Proof.Machine

/-- What an 8-bit adder gives: the byte, the carry (or borrow), the carry out of bit 3. -/
structure AluOut where
  res : Byte
  cy  : Bool
  ac  : Bool
  deriving DecidableEq, Repr

/-- `add8(x, y, cin)` (R150). -/
def add8 (x y : Byte) (cin : Bool) : AluOut :=
  let sum := x.toNat + y.toNat + cin.toNat
  { res := BitVec.ofNat 8 sum
    cy  := decide (sum > 0xFF)
    ac  := decide ((x &&& 0x0F#8).toNat + (y &&& 0x0F#8).toNat + cin.toNat > 0x0F) }

/-- `sub8(x, y, bin)`: the sum `x + ~y + (1 - bin)`, with CY the borrow and AC the carry out of bit 3 of that sum
(R151, C4). -/
def sub8 (x y : Byte) (bin : Bool) : AluOut :=
  let sum := x.toNat + (~~~y).toNat + (1 - bin.toNat)
  { res := BitVec.ofNat 8 sum
    cy  := !decide (sum > 0xFF)
    ac  := decide ((x &&& 0x0F#8).toNat + (~~~y &&& 0x0F#8).toNat + (1 - bin.toNat) > 0x0F) }

/-- `add16(x, y)`: the 16-bit sum and the carry out of bit 15 (R152). -/
def add16 (x y : Word) : Word × Bool :=
  (BitVec.ofNat 16 (x.toNat + y.toNat), decide (x.toNat + y.toNat > 0xFFFF))

/-- `zsp(res)`: Z, S, P from the 8-bit result; CY and AC kept (R14, R153). -/
def Flags.zsp (f : Flags) (res : Byte) : Flags :=
  { f with zero := res == 0x00#8, sign := res.getLsbD 7, parity := Machine.parity res }

/-- The five flags of an ADD- or SUB-family result (R155-R166, R186-R188). -/
def Flags.arith (f : Flags) (r : AluOut) : Flags :=
  { f.zsp r.res with carry := r.cy, auxCarry := r.ac }

/-- `logic(res)`: zsp, CY and AC cleared (R154). -/
def Flags.logic (f : Flags) (res : Byte) : Flags :=
  { f.zsp res with carry := false, auxCarry := false }

/-- The flags of INR and DCR: zsp and AC, CY untouched (R167-R170; AC by D16, log 11). -/
def Flags.incDec (f : Flags) (r : AluOut) : Flags :=
  { f.zsp r.res with auxCarry := r.ac }

/-- `flagbyte()` (R44). -/
def Flags.toByte (f : Flags) : Byte :=
  BitVec.ofNat 8 (f.sign.toNat * 0x80 + f.zero.toNat * 0x40 + f.auxCarry.toNat * 0x10 + f.parity.toNat * 0x04
    + 0x02 + f.carry.toNat * 0x01)

/-- Unpacking a popped flag byte; bits 5, 3, 1 are discarded (R45). -/
def Flags.ofByte (x : Byte) : Flags :=
  { sign := x.getLsbD 7, zero := x.getLsbD 6, auxCarry := x.getLsbD 4, parity := x.getLsbD 2, carry := x.getLsbD 0 }

/-- One step of the document's DAA: an ADD of the correction (R175). -/
def daaAdjust (k : Byte) (a : Byte) (f : Flags) : Byte × Flags :=
  ((add8 a k false).res, f.arith (add8 a k false))

/-- First step of `daa_doc`: low nibble above 9, or AC (R175). -/
def daaDocLow (a : Byte) (f : Flags) : Byte × Flags :=
  if (a &&& 0x0F#8).toNat > 9 ∨ f.auxCarry = true then daaAdjust 0x06#8 a f else (a, f)

/-- Second step of `daa_doc`, on A and CY as the first left them: high nibble above 9, or CY (R175, D5). -/
def daaDocHigh (a : Byte) (f : Flags) : Byte × Flags :=
  if (a >>> 4).toNat > 9 ∨ f.carry = true then daaAdjust 0x60#8 a f else (a, f)

/-- `daa_doc()`: the source's DAA (R175). -/
def daaDoc (a : Byte) (f : Flags) : Byte × Flags :=
  daaDocHigh (daaDocLow a f).1 (daaDocLow a f).2

/-- The low correction of `daa_intel` (R176). -/
def daaIntelLow (a : Byte) (f : Flags) : Bool :=
  decide ((a &&& 0x0F#8).toNat > 9 ∨ f.auxCarry = true)

/-- The high correction of `daa_intel` (R176). -/
def daaIntelHigh (a : Byte) (f : Flags) : Bool :=
  decide ((a >>> 4).toNat > 9 ∨ f.carry = true ∨ ((a >>> 4).toNat ≥ 9 ∧ (a &&& 0x0F#8).toNat > 9))

/-- The correction byte of `daa_intel`: 0x06, 0x60, both or neither (R176). -/
def daaIntelCorrection (a : Byte) (f : Flags) : Byte :=
  (if daaIntelLow a f then 0x06#8 else 0x00#8) ||| (if daaIntelHigh a f then 0x60#8 else 0x00#8)

/-- `daa_intel()` (R176, G3): one ADD of the correction; CY is set by the high correction and never cleared. -/
def daaIntel (a : Byte) (f : Flags) : Byte × Flags :=
  let r := add8 a (daaIntelCorrection a f) false
  (r.res, { f.arith r with carry := f.carry || daaIntelHigh a f })

/-- DAA by the machine's variant (R174). -/
def daa (v : DaaVariant) (a : Byte) (f : Flags) : Byte × Flags :=
  match v with
  | .docSequential => daaDoc a f
  | .intel8080     => daaIntel a f

end Sys2Proof.Machine
end

