-- ==== Sys2Proof/Syntax.lean ====
section
/-! DEFINITION. The instructions: one constructor for each of the 256 rows of spec/opcode_table.json, family by family,
operand codes named in the constructor (destination first), immediate operands as arguments: d8 and port a byte, d16
and a16 a 16-bit word (30_encoding.md R92-R96, R103). The forms with an operand byte come first. The 12 unimplemented
opcode bytes are rows too (R97). -/

namespace Sys2Proof

inductive Instr where
  -- LXI: R135
  | lxiBC (d16 : Word)
  | lxiDE (d16 : Word)
  | lxiHL (d16 : Word)
  | lxiSP (d16 : Word)
  -- MVIr: R133
  | mviB (d8 : Byte)
  | mviC (d8 : Byte)
  | mviD (d8 : Byte)
  | mviE (d8 : Byte)
  | mviH (d8 : Byte)
  | mviL (d8 : Byte)
  | mviA (d8 : Byte)
  -- SHLD: R139
  | shld (a16 : Word)
  -- LHLD: R138
  | lhld (a16 : Word)
  -- STA: R137
  | sta (a16 : Word)
  -- MVIM: R134
  | mviM (d8 : Byte)
  -- LDA: R136
  | lda (a16 : Word)
  -- Jcond: R212
  | jnz (a16 : Word)
  | jz (a16 : Word)
  | jnc (a16 : Word)
  | jc (a16 : Word)
  | jpo (a16 : Word)
  | jpe (a16 : Word)
  | jp (a16 : Word)
  | jm (a16 : Word)
  -- JMP: R211
  | jmp (a16 : Word)
  -- Ccond: R214
  | cnz (a16 : Word)
  | cz (a16 : Word)
  | cnc (a16 : Word)
  | cc (a16 : Word)
  | cpo (a16 : Word)
  | cpe (a16 : Word)
  | cp (a16 : Word)
  | cm (a16 : Word)
  -- ADI: R157
  | adi (d8 : Byte)
  -- CALL: R213
  | call (a16 : Word)
  -- ACI: R160
  | aci (d8 : Byte)
  -- OUT: R239
  | outPort (port : Byte)
  -- SUI: R163
  | sui (d8 : Byte)
  -- IN: R238
  | inPort (port : Byte)
  -- SBI: R166
  | sbi (d8 : Byte)
  -- ANI: R179
  | ani (d8 : Byte)
  -- XRI: R182
  | xri (d8 : Byte)
  -- ORI: R185
  | ori (d8 : Byte)
  -- CPI: R188
  | cpi (d8 : Byte)
  -- NOP: R244
  | nop
  -- STAX: R141
  | staxBC | staxDE
  -- INX: R171
  | inxBC | inxDE | inxHL | inxSP
  -- INRr: R167
  | inrB | inrC | inrD | inrE | inrH | inrL | inrA
  -- DCRr: R169
  | dcrB | dcrC | dcrD | dcrE | dcrH | dcrL | dcrA
  -- RLC: R189
  | rlc
  -- unimplemented opcode bytes: R280
  | unimplemented08 | unimplemented10 | unimplemented18 | unimplemented20 | unimplemented28
  | unimplemented30 | unimplemented38 | unimplementedCB | unimplementedD9 | unimplementedDD | unimplementedED
  | unimplementedFD
  -- DAD: R173
  | dadBC | dadDE | dadHL | dadSP
  -- LDAX: R140
  | ldaxBC | ldaxDE
  -- DCX: R172
  | dcxBC | dcxDE | dcxHL | dcxSP
  -- RRC: R190
  | rrc
  -- RAL: R191
  | ral
  -- RAR: R192
  | rar
  -- DAA: R174
  | daa
  -- CMA: R193
  | cma
  -- INRM: R168
  | inrM
  -- DCRM: R170
  | dcrM
  -- STC: R195
  | stc
  -- CMC: R194
  | cmc
  -- MOVrr: R130
  | movBB | movBC | movBD | movBE | movBH | movBL | movBA | movCB | movCC | movCD | movCE | movCH | movCL
  | movCA | movDB | movDC | movDD | movDE | movDH | movDL | movDA | movEB | movEC | movED | movEE | movEH
  | movEL | movEA | movHB | movHC | movHD | movHE | movHH | movHL | movHA | movLB | movLC | movLD | movLE
  | movLH | movLL | movLA | movAB | movAC | movAD | movAE | movAH | movAL | movAA
  -- MOVrM: R131
  | movBM | movCM | movDM | movEM | movHM | movLM | movAM
  -- MOVMr: R132
  | movMB | movMC | movMD | movME | movMH | movML | movMA
  -- HLT: R242
  | hlt
  -- ADDr: R155
  | addB | addC | addD | addE | addH | addL | addA
  -- ADDM: R156
  | addM
  -- ADCr: R158
  | adcB | adcC | adcD | adcE | adcH | adcL | adcA
  -- ADCM: R159
  | adcM
  -- SUBr: R161
  | subB | subC | subD | subE | subH | subL | subA
  -- SUBM: R162
  | subM
  -- SBBr: R164
  | sbbB | sbbC | sbbD | sbbE | sbbH | sbbL | sbbA
  -- SBBM: R165
  | sbbM
  -- ANAr: R177
  | anaB | anaC | anaD | anaE | anaH | anaL | anaA
  -- ANAM: R178
  | anaM
  -- XRAr: R180
  | xraB | xraC | xraD | xraE | xraH | xraL | xraA
  -- XRAM: R181
  | xraM
  -- ORAr: R183
  | oraB | oraC | oraD | oraE | oraH | oraL | oraA
  -- ORAM: R184
  | oraM
  -- CMPr: R186
  | cmpB | cmpC | cmpD | cmpE | cmpH | cmpL | cmpA
  -- CMPM: R187
  | cmpM
  -- Rcond: R216
  | rnz | rz | rnc | rc | rpo | rpe | rp | rm
  -- POPrp: R234
  | popBC | popDE | popHL
  -- PUSHrp: R232
  | pushBC | pushDE | pushHL
  -- RST: R217
  | rst0 | rst1 | rst2 | rst3 | rst4 | rst5 | rst6 | rst7
  -- RET: R215
  | ret
  -- XTHL: R236
  | xthl
  -- PCHL: R218
  | pchl
  -- XCHG: R142
  | xchg
  -- POPPSW: R235
  | popPSW
  -- DI: R241
  | di
  -- PUSHPSW: R233
  | pushPSW
  -- SPHL: R237
  | sphl
  -- EI: R240
  | ei
  deriving DecidableEq, Repr

end Sys2Proof
end

