-- ==== Sys2Proof/WellFormed.lean ====
section
/-! DEFINITION. What is well formed. An instruction's operands are a byte (d8, port) or a 16-bit word (d16, a16) and
every value of them is legal (30_encoding.md R93), so the types of `Instr` leave no ill-formed instruction to
refuse; the checks here are on what comes from outside the core: an encoded instruction's bytes (R90), an interrupt
number, an input latch index, a ROM image. -/

namespace Sys2Proof

/-- An instruction of the core is one of the 244 required encodings; the 12 other opcode bytes have rows of the
table and constructors, but no handler (30_encoding.md R96, R97). -/
def Instr.implemented : Instr → Bool
  | .unimplemented08 | .unimplemented10 | .unimplemented18 | .unimplemented20 | .unimplemented28
  | .unimplemented30 | .unimplemented38 | .unimplementedCB | .unimplementedD9 | .unimplementedDD
  | .unimplementedED | .unimplementedFD => false
  | _ => true

/-- `raise_interrupt(n)` takes n in 0..7 (60_exceptions.md R290, D7). -/
def interruptNumberOk (n : Nat) : Bool := decide (n ≤ 7)

/-- `input_ports` has the indices 0, 1, 2 (10_state.md R52). -/
def inputIndexOk (i : Nat) : Bool := decide (i ≤ 2)

/-- A ROM image fits memory (70_reset_and_hazards.md R333, D11). -/
def romImageOk (image : List Byte) : Bool := decide (image.length ≤ 65536)

end Sys2Proof
end

