-- ==== Sys2Proof/Decode.lean ====
section
/-! DEFINITION. Decoding, total on any bytes, and the encoder. The decoder reads the opcode byte by its bit fields
(30_encoding.md R91-R95, R101); the encoder is written row by row from spec/opcode_table.json. -/

namespace Sys2Proof

open Sys2Proof.Machine

/-! ## One instruction of a family, by its operand codes -/

/-- MOV dst,src (R130-R132); the slot MOV M,M is HLT (R242). -/
def Instr.movOf (dst src : Reg8) : Instr :=
  match dst, src with
  | .b, .b => .movBB
  | .b, .c => .movBC
  | .b, .d => .movBD
  | .b, .e => .movBE
  | .b, .h => .movBH
  | .b, .l => .movBL
  | .b, .m => .movBM
  | .b, .a => .movBA
  | .c, .b => .movCB
  | .c, .c => .movCC
  | .c, .d => .movCD
  | .c, .e => .movCE
  | .c, .h => .movCH
  | .c, .l => .movCL
  | .c, .m => .movCM
  | .c, .a => .movCA
  | .d, .b => .movDB
  | .d, .c => .movDC
  | .d, .d => .movDD
  | .d, .e => .movDE
  | .d, .h => .movDH
  | .d, .l => .movDL
  | .d, .m => .movDM
  | .d, .a => .movDA
  | .e, .b => .movEB
  | .e, .c => .movEC
  | .e, .d => .movED
  | .e, .e => .movEE
  | .e, .h => .movEH
  | .e, .l => .movEL
  | .e, .m => .movEM
  | .e, .a => .movEA
  | .h, .b => .movHB
  | .h, .c => .movHC
  | .h, .d => .movHD
  | .h, .e => .movHE
  | .h, .h => .movHH
  | .h, .l => .movHL
  | .h, .m => .movHM
  | .h, .a => .movHA
  | .l, .b => .movLB
  | .l, .c => .movLC
  | .l, .d => .movLD
  | .l, .e => .movLE
  | .l, .h => .movLH
  | .l, .l => .movLL
  | .l, .m => .movLM
  | .l, .a => .movLA
  | .m, .b => .movMB
  | .m, .c => .movMC
  | .m, .d => .movMD
  | .m, .e => .movME
  | .m, .h => .movMH
  | .m, .l => .movML
  | .m, .m => .hlt
  | .m, .a => .movMA
  | .a, .b => .movAB
  | .a, .c => .movAC
  | .a, .d => .movAD
  | .a, .e => .movAE
  | .a, .h => .movAH
  | .a, .l => .movAL
  | .a, .m => .movAM
  | .a, .a => .movAA

/-- MVI r,d8 and MVI M,d8 (R133, R134). -/
def Instr.mviOf (k : Reg8) (d8 : Byte) : Instr :=
  match k with
  | .b => .mviB d8
  | .c => .mviC d8
  | .d => .mviD d8
  | .e => .mviE d8
  | .h => .mviH d8
  | .l => .mviL d8
  | .m => .mviM d8
  | .a => .mviA d8

/-- INR r and INR M (R167, R168). -/
def Instr.inrOf (k : Reg8) : Instr :=
  match k with
  | .b => .inrB
  | .c => .inrC
  | .d => .inrD
  | .e => .inrE
  | .h => .inrH
  | .l => .inrL
  | .m => .inrM
  | .a => .inrA

/-- DCR r and DCR M (R169, R170). -/
def Instr.dcrOf (k : Reg8) : Instr :=
  match k with
  | .b => .dcrB
  | .c => .dcrC
  | .d => .dcrD
  | .e => .dcrE
  | .h => .dcrH
  | .l => .dcrL
  | .m => .dcrM
  | .a => .dcrA

/-- LXI rp,d16 (R135). -/
def Instr.lxiOf (k : RegPair) (d16 : Word) : Instr :=
  match k with
  | .bc => .lxiBC d16
  | .de => .lxiDE d16
  | .hl => .lxiHL d16
  | .sp => .lxiSP d16

/-- INX rp (R171). -/
def Instr.inxOf (k : RegPair) : Instr :=
  match k with
  | .bc => .inxBC
  | .de => .inxDE
  | .hl => .inxHL
  | .sp => .inxSP

/-- DCX rp (R172). -/
def Instr.dcxOf (k : RegPair) : Instr :=
  match k with
  | .bc => .dcxBC
  | .de => .dcxDE
  | .hl => .dcxHL
  | .sp => .dcxSP

/-- DAD rp (R173). -/
def Instr.dadOf (k : RegPair) : Instr :=
  match k with
  | .bc => .dadBC
  | .de => .dadDE
  | .hl => .dadHL
  | .sp => .dadSP

/-- The register and M forms of the eight ALU operations (R155-R187). -/
def Instr.aluOf (op : AluOp) (r : Reg8) : Instr :=
  match op, r with
  | .add, .b => .addB
  | .add, .c => .addC
  | .add, .d => .addD
  | .add, .e => .addE
  | .add, .h => .addH
  | .add, .l => .addL
  | .add, .m => .addM
  | .add, .a => .addA
  | .adc, .b => .adcB
  | .adc, .c => .adcC
  | .adc, .d => .adcD
  | .adc, .e => .adcE
  | .adc, .h => .adcH
  | .adc, .l => .adcL
  | .adc, .m => .adcM
  | .adc, .a => .adcA
  | .sub, .b => .subB
  | .sub, .c => .subC
  | .sub, .d => .subD
  | .sub, .e => .subE
  | .sub, .h => .subH
  | .sub, .l => .subL
  | .sub, .m => .subM
  | .sub, .a => .subA
  | .sbb, .b => .sbbB
  | .sbb, .c => .sbbC
  | .sbb, .d => .sbbD
  | .sbb, .e => .sbbE
  | .sbb, .h => .sbbH
  | .sbb, .l => .sbbL
  | .sbb, .m => .sbbM
  | .sbb, .a => .sbbA
  | .ana, .b => .anaB
  | .ana, .c => .anaC
  | .ana, .d => .anaD
  | .ana, .e => .anaE
  | .ana, .h => .anaH
  | .ana, .l => .anaL
  | .ana, .m => .anaM
  | .ana, .a => .anaA
  | .xra, .b => .xraB
  | .xra, .c => .xraC
  | .xra, .d => .xraD
  | .xra, .e => .xraE
  | .xra, .h => .xraH
  | .xra, .l => .xraL
  | .xra, .m => .xraM
  | .xra, .a => .xraA
  | .ora, .b => .oraB
  | .ora, .c => .oraC
  | .ora, .d => .oraD
  | .ora, .e => .oraE
  | .ora, .h => .oraH
  | .ora, .l => .oraL
  | .ora, .m => .oraM
  | .ora, .a => .oraA
  | .cmp, .b => .cmpB
  | .cmp, .c => .cmpC
  | .cmp, .d => .cmpD
  | .cmp, .e => .cmpE
  | .cmp, .h => .cmpH
  | .cmp, .l => .cmpL
  | .cmp, .m => .cmpM
  | .cmp, .a => .cmpA

/-- The immediate forms of the eight ALU operations (R157-R188). -/
def Instr.aluImmOf (op : AluOp) (d8 : Byte) : Instr :=
  match op with
  | .add => .adi d8
  | .adc => .aci d8
  | .sub => .sui d8
  | .sbb => .sbi d8
  | .ana => .ani d8
  | .xra => .xri d8
  | .ora => .ori d8
  | .cmp => .cpi d8

/-- Jcond a16 (R212). -/
def Instr.jcondOf (k : Cond) (a16 : Word) : Instr :=
  match k with
  | .nz => .jnz a16
  | .z => .jz a16
  | .nc => .jnc a16
  | .c => .jc a16
  | .po => .jpo a16
  | .pe => .jpe a16
  | .p => .jp a16
  | .m => .jm a16

/-- Ccond a16 (R214). -/
def Instr.ccondOf (k : Cond) (a16 : Word) : Instr :=
  match k with
  | .nz => .cnz a16
  | .z => .cz a16
  | .nc => .cnc a16
  | .c => .cc a16
  | .po => .cpo a16
  | .pe => .cpe a16
  | .p => .cp a16
  | .m => .cm a16

/-- Rcond (R216). -/
def Instr.rcondOf (k : Cond) : Instr :=
  match k with
  | .nz => .rnz
  | .z => .rz
  | .nc => .rnc
  | .c => .rc
  | .po => .rpo
  | .pe => .rpe
  | .p => .rp
  | .m => .rm

/-- PUSH rp and PUSH PSW (R232, R233), by the separate table of R101. -/
def Instr.pushOf (k : StackPair) : Instr :=
  match k with
  | .bc => .pushBC
  | .de => .pushDE
  | .hl => .pushHL
  | .psw => .pushPSW

/-- POP rp and POP PSW (R234, R235), by the separate table of R101. -/
def Instr.popOf (k : StackPair) : Instr :=
  match k with
  | .bc => .popBC
  | .de => .popDE
  | .hl => .popHL
  | .psw => .popPSW

/-- RST n, n = nnn (R217). -/
def Instr.rstOfBits (b2 b1 b0 : Bool) : Instr :=
  match b2, b1, b0 with
  | false, false, false => .rst0
  | false, false, true => .rst1
  | false, true, false => .rst2
  | false, true, true => .rst3
  | true, false, false => .rst4
  | true, false, true => .rst5
  | true, true, false => .rst6
  | true, true, true => .rst7

/-- Opcodes 00xxx000: NOP and seven unimplemented bytes (R96, R97). -/
def Instr.group0Column0 (b2 b1 b0 : Bool) : Instr :=
  match b2, b1, b0 with
  | false, false, false => .nop
  | false, false, true => .unimplemented08
  | false, true, false => .unimplemented10
  | false, true, true => .unimplemented18
  | true, false, false => .unimplemented20
  | true, false, true => .unimplemented28
  | true, true, false => .unimplemented30
  | true, true, true => .unimplemented38

/-- Opcodes 00xxx010: STAX, LDAX, SHLD, LHLD, STA, LDA (R101). -/
def Instr.group0Column2 (b2 b1 b0 : Bool) (a16 : Word) : Instr :=
  match b2, b1, b0 with
  | false, false, false => .staxBC
  | false, false, true => .ldaxBC
  | false, true, false => .staxDE
  | false, true, true => .ldaxDE
  | true, false, false => .shld a16
  | true, false, true => .lhld a16
  | true, true, false => .sta a16
  | true, true, true => .lda a16

/-- Opcodes 00xxx111: rotates, DAA, CMA, STC, CMC (R96). -/
def Instr.group0Column7 (b2 b1 b0 : Bool) : Instr :=
  match b2, b1, b0 with
  | false, false, false => .rlc
  | false, false, true => .rrc
  | false, true, false => .ral
  | false, true, true => .rar
  | true, false, false => .daa
  | true, false, true => .cma
  | true, true, false => .stc
  | true, true, true => .cmc

/-- Opcodes 11xxx001: POP, RET, PCHL, SPHL, one unimplemented byte (R96, R97, R101). -/
def Instr.group3Column1 (b2 b1 b0 : Bool) : Instr :=
  match b2, b1, b0 with
  | false, false, false => .popOf .bc
  | false, false, true => .ret
  | false, true, false => .popOf .de
  | false, true, true => .unimplementedD9
  | true, false, false => .popOf .hl
  | true, false, true => .pchl
  | true, true, false => .popOf .psw
  | true, true, true => .sphl

/-- Opcodes 11xxx011: JMP, OUT, IN, XTHL, XCHG, DI, EI, one unimplemented byte (R96, R97). -/
def Instr.group3Column3 (b2 b1 b0 : Bool) (imm8 : Byte) (a16 : Word) : Instr :=
  match b2, b1, b0 with
  | false, false, false => .jmp a16
  | false, false, true => .unimplementedCB
  | false, true, false => .outPort imm8
  | false, true, true => .inPort imm8
  | true, false, false => .xthl
  | true, false, true => .xchg
  | true, true, false => .di
  | true, true, true => .ei

/-- Opcodes 11xxx101: PUSH, CALL, three unimplemented bytes (R96, R97, R101). -/
def Instr.group3Column5 (b2 b1 b0 : Bool) (a16 : Word) : Instr :=
  match b2, b1, b0 with
  | false, false, false => .pushOf .bc
  | false, false, true => .call a16
  | false, true, false => .pushOf .de
  | false, true, true => .unimplementedDD
  | true, false, false => .pushOf .hl
  | true, false, true => .unimplementedED
  | true, true, false => .pushOf .psw
  | true, true, true => .unimplementedFD

/-- Group 00 by its column, bits 2:0; p is bits 5:4 and q is bit 3 (R91). -/
def Instr.group0 (b5 b4 b3 b2 b1 b0 : Bool) (imm8 : Byte) (imm16 : Word) : Instr :=
  match b2, b1, b0 with
  | false, false, false => .group0Column0 b5 b4 b3
  | false, false, true => if b3 then .dadOf (.ofBits b5 b4) else .lxiOf (.ofBits b5 b4) imm16
  | false, true, false => .group0Column2 b5 b4 b3 imm16
  | false, true, true => if b3 then .dcxOf (.ofBits b5 b4) else .inxOf (.ofBits b5 b4)
  | true, false, false => .inrOf (.ofBits b5 b4 b3)
  | true, false, true => .dcrOf (.ofBits b5 b4 b3)
  | true, true, false => .mviOf (.ofBits b5 b4 b3) imm8
  | true, true, true => .group0Column7 b5 b4 b3

/-- Group 11 by its column, bits 2:0 (R91). -/
def Instr.group3 (b5 b4 b3 b2 b1 b0 : Bool) (imm8 : Byte) (imm16 : Word) : Instr :=
  match b2, b1, b0 with
  | false, false, false => .rcondOf (.ofBits b5 b4 b3)
  | false, false, true => .group3Column1 b5 b4 b3
  | false, true, false => .jcondOf (.ofBits b5 b4 b3) imm16
  | false, true, true => .group3Column3 b5 b4 b3 imm8 imm16
  | true, false, false => .ccondOf (.ofBits b5 b4 b3) imm16
  | true, false, true => .group3Column5 b5 b4 b3 imm16
  | true, true, false => .aluImmOf (.ofBits b5 b4 b3) imm8
  | true, true, true => .rstOfBits b5 b4 b3

/-- The instruction of an opcode byte given by its bits, most significant first (R91, R100, R102). -/
def Instr.ofOpcodeBits (b7 b6 b5 b4 b3 b2 b1 b0 : Bool) (imm8 : Byte) (imm16 : Word) : Instr :=
  match b7, b6 with
  | false, false => .group0 b5 b4 b3 b2 b1 b0 imm8 imm16
  | false, true  => .movOf (.ofBits b5 b4 b3) (.ofBits b2 b1 b0)
  | true,  false => .aluOf (.ofBits b5 b4 b3) (.ofBits b2 b1 b0)
  | true,  true  => .group3 b5 b4 b3 b2 b1 b0 imm8 imm16

/-- Decoding is a total function of the opcode byte; `imm8`, `imm16` are its operand, used by the forms that have one
(R93, R100). -/
def decodeOpcode (op imm8 : Byte) (imm16 : Word) : Instr :=
  .ofOpcodeBits (op.getLsbD 7) (op.getLsbD 6) (op.getLsbD 5) (op.getLsbD 4) (op.getLsbD 3) (op.getLsbD 2)
    (op.getLsbD 1) (op.getLsbD 0) imm8 imm16

/-- The opcodes of the 3-byte instructions: LXI; SHLD, LHLD, STA, LDA; JMP, Jcond; CALL, Ccond (R90). -/
def threeByteOpcodes : List Byte :=
  [0x01#8, 0x11#8, 0x21#8, 0x31#8] ++
  [0x22#8, 0x2A#8, 0x32#8, 0x3A#8] ++
  [0xC2#8, 0xC3#8, 0xCA#8, 0xD2#8, 0xDA#8, 0xE2#8, 0xEA#8, 0xF2#8, 0xFA#8] ++
  [0xC4#8, 0xCC#8, 0xCD#8, 0xD4#8, 0xDC#8, 0xE4#8, 0xEC#8, 0xF4#8, 0xFC#8]

/-- The opcodes of the 2-byte instructions: MVI; ADI to CPI; OUT, IN (R90). -/
def twoByteOpcodes : List Byte :=
  [0x06#8, 0x0E#8, 0x16#8, 0x1E#8, 0x26#8, 0x2E#8, 0x36#8, 0x3E#8] ++
  [0xC6#8, 0xCE#8, 0xD6#8, 0xDE#8, 0xE6#8, 0xEE#8, 0xF6#8, 0xFE#8] ++
  [0xD3#8, 0xDB#8]

/-- The length of an instruction is a function of its opcode byte alone (R90). -/
def opLength (op : Byte) : Nat :=
  if threeByteOpcodes.contains op then 3 else if twoByteOpcodes.contains op then 2 else 1

/-- Why a list of bytes is no instruction. No opcode byte is refused (R100): only bytes can be lacking, which is the model's own
case (DESIGN CHOICE, log 21): a fetch always has its bytes. -/
inductive DecodeError where
  /-- There is no opcode byte. -/
  | noOpcode
  /-- The opcode `op` needs more operand bytes than the `given` bytes hold (R90). -/
  | truncated (op : Byte) (given : Nat)
  deriving DecidableEq, Repr

/-- The instruction at the head of a list of bytes, and the bytes after it (R90, R93: low byte of a 16-bit operand
first). -/
def decode : List Byte → Except DecodeError (Instr × List Byte)
  | [] => .error .noOpcode
  | op :: rest =>
    if rest.length + 1 < opLength op then .error (.truncated op (rest.length + 1))
    else .ok (decodeOpcode op (rest.getD 0 0#8) (concat16 (rest.getD 1 0#8) (rest.getD 0 0#8)), rest.drop (opLength op - 1))

/-- The bytes of an instruction, row by row from spec/opcode_table.json: the opcode, then d8 or port, or the low and the
high byte of d16 or a16 (R92). -/
def encode (i : Instr) : List Byte :=
  match i with
  | .nop => [0x00#8]
  | .lxiBC w => [0x01#8, lowByte w, highByte w]
  | .staxBC => [0x02#8]
  | .inxBC => [0x03#8]
  | .inrB => [0x04#8]
  | .dcrB => [0x05#8]
  | .mviB v => [0x06#8, v]
  | .rlc => [0x07#8]
  | .unimplemented08 => [0x08#8]
  | .dadBC => [0x09#8]
  | .ldaxBC => [0x0A#8]
  | .dcxBC => [0x0B#8]
  | .inrC => [0x0C#8]
  | .dcrC => [0x0D#8]
  | .mviC v => [0x0E#8, v]
  | .rrc => [0x0F#8]
  | .unimplemented10 => [0x10#8]
  | .lxiDE w => [0x11#8, lowByte w, highByte w]
  | .staxDE => [0x12#8]
  | .inxDE => [0x13#8]
  | .inrD => [0x14#8]
  | .dcrD => [0x15#8]
  | .mviD v => [0x16#8, v]
  | .ral => [0x17#8]
  | .unimplemented18 => [0x18#8]
  | .dadDE => [0x19#8]
  | .ldaxDE => [0x1A#8]
  | .dcxDE => [0x1B#8]
  | .inrE => [0x1C#8]
  | .dcrE => [0x1D#8]
  | .mviE v => [0x1E#8, v]
  | .rar => [0x1F#8]
  | .unimplemented20 => [0x20#8]
  | .lxiHL w => [0x21#8, lowByte w, highByte w]
  | .shld w => [0x22#8, lowByte w, highByte w]
  | .inxHL => [0x23#8]
  | .inrH => [0x24#8]
  | .dcrH => [0x25#8]
  | .mviH v => [0x26#8, v]
  | .daa => [0x27#8]
  | .unimplemented28 => [0x28#8]
  | .dadHL => [0x29#8]
  | .lhld w => [0x2A#8, lowByte w, highByte w]
  | .dcxHL => [0x2B#8]
  | .inrL => [0x2C#8]
  | .dcrL => [0x2D#8]
  | .mviL v => [0x2E#8, v]
  | .cma => [0x2F#8]
  | .unimplemented30 => [0x30#8]
  | .lxiSP w => [0x31#8, lowByte w, highByte w]
  | .sta w => [0x32#8, lowByte w, highByte w]
  | .inxSP => [0x33#8]
  | .inrM => [0x34#8]
  | .dcrM => [0x35#8]
  | .mviM v => [0x36#8, v]
  | .stc => [0x37#8]
  | .unimplemented38 => [0x38#8]
  | .dadSP => [0x39#8]
  | .lda w => [0x3A#8, lowByte w, highByte w]
  | .dcxSP => [0x3B#8]
  | .inrA => [0x3C#8]
  | .dcrA => [0x3D#8]
  | .mviA v => [0x3E#8, v]
  | .cmc => [0x3F#8]
  | .movBB => [0x40#8]
  | .movBC => [0x41#8]
  | .movBD => [0x42#8]
  | .movBE => [0x43#8]
  | .movBH => [0x44#8]
  | .movBL => [0x45#8]
  | .movBM => [0x46#8]
  | .movBA => [0x47#8]
  | .movCB => [0x48#8]
  | .movCC => [0x49#8]
  | .movCD => [0x4A#8]
  | .movCE => [0x4B#8]
  | .movCH => [0x4C#8]
  | .movCL => [0x4D#8]
  | .movCM => [0x4E#8]
  | .movCA => [0x4F#8]
  | .movDB => [0x50#8]
  | .movDC => [0x51#8]
  | .movDD => [0x52#8]
  | .movDE => [0x53#8]
  | .movDH => [0x54#8]
  | .movDL => [0x55#8]
  | .movDM => [0x56#8]
  | .movDA => [0x57#8]
  | .movEB => [0x58#8]
  | .movEC => [0x59#8]
  | .movED => [0x5A#8]
  | .movEE => [0x5B#8]
  | .movEH => [0x5C#8]
  | .movEL => [0x5D#8]
  | .movEM => [0x5E#8]
  | .movEA => [0x5F#8]
  | .movHB => [0x60#8]
  | .movHC => [0x61#8]
  | .movHD => [0x62#8]
  | .movHE => [0x63#8]
  | .movHH => [0x64#8]
  | .movHL => [0x65#8]
  | .movHM => [0x66#8]
  | .movHA => [0x67#8]
  | .movLB => [0x68#8]
  | .movLC => [0x69#8]
  | .movLD => [0x6A#8]
  | .movLE => [0x6B#8]
  | .movLH => [0x6C#8]
  | .movLL => [0x6D#8]
  | .movLM => [0x6E#8]
  | .movLA => [0x6F#8]
  | .movMB => [0x70#8]
  | .movMC => [0x71#8]
  | .movMD => [0x72#8]
  | .movME => [0x73#8]
  | .movMH => [0x74#8]
  | .movML => [0x75#8]
  | .hlt => [0x76#8]
  | .movMA => [0x77#8]
  | .movAB => [0x78#8]
  | .movAC => [0x79#8]
  | .movAD => [0x7A#8]
  | .movAE => [0x7B#8]
  | .movAH => [0x7C#8]
  | .movAL => [0x7D#8]
  | .movAM => [0x7E#8]
  | .movAA => [0x7F#8]
  | .addB => [0x80#8]
  | .addC => [0x81#8]
  | .addD => [0x82#8]
  | .addE => [0x83#8]
  | .addH => [0x84#8]
  | .addL => [0x85#8]
  | .addM => [0x86#8]
  | .addA => [0x87#8]
  | .adcB => [0x88#8]
  | .adcC => [0x89#8]
  | .adcD => [0x8A#8]
  | .adcE => [0x8B#8]
  | .adcH => [0x8C#8]
  | .adcL => [0x8D#8]
  | .adcM => [0x8E#8]
  | .adcA => [0x8F#8]
  | .subB => [0x90#8]
  | .subC => [0x91#8]
  | .subD => [0x92#8]
  | .subE => [0x93#8]
  | .subH => [0x94#8]
  | .subL => [0x95#8]
  | .subM => [0x96#8]
  | .subA => [0x97#8]
  | .sbbB => [0x98#8]
  | .sbbC => [0x99#8]
  | .sbbD => [0x9A#8]
  | .sbbE => [0x9B#8]
  | .sbbH => [0x9C#8]
  | .sbbL => [0x9D#8]
  | .sbbM => [0x9E#8]
  | .sbbA => [0x9F#8]
  | .anaB => [0xA0#8]
  | .anaC => [0xA1#8]
  | .anaD => [0xA2#8]
  | .anaE => [0xA3#8]
  | .anaH => [0xA4#8]
  | .anaL => [0xA5#8]
  | .anaM => [0xA6#8]
  | .anaA => [0xA7#8]
  | .xraB => [0xA8#8]
  | .xraC => [0xA9#8]
  | .xraD => [0xAA#8]
  | .xraE => [0xAB#8]
  | .xraH => [0xAC#8]
  | .xraL => [0xAD#8]
  | .xraM => [0xAE#8]
  | .xraA => [0xAF#8]
  | .oraB => [0xB0#8]
  | .oraC => [0xB1#8]
  | .oraD => [0xB2#8]
  | .oraE => [0xB3#8]
  | .oraH => [0xB4#8]
  | .oraL => [0xB5#8]
  | .oraM => [0xB6#8]
  | .oraA => [0xB7#8]
  | .cmpB => [0xB8#8]
  | .cmpC => [0xB9#8]
  | .cmpD => [0xBA#8]
  | .cmpE => [0xBB#8]
  | .cmpH => [0xBC#8]
  | .cmpL => [0xBD#8]
  | .cmpM => [0xBE#8]
  | .cmpA => [0xBF#8]
  | .rnz => [0xC0#8]
  | .popBC => [0xC1#8]
  | .jnz w => [0xC2#8, lowByte w, highByte w]
  | .jmp w => [0xC3#8, lowByte w, highByte w]
  | .cnz w => [0xC4#8, lowByte w, highByte w]
  | .pushBC => [0xC5#8]
  | .adi v => [0xC6#8, v]
  | .rst0 => [0xC7#8]
  | .rz => [0xC8#8]
  | .ret => [0xC9#8]
  | .jz w => [0xCA#8, lowByte w, highByte w]
  | .unimplementedCB => [0xCB#8]
  | .cz w => [0xCC#8, lowByte w, highByte w]
  | .call w => [0xCD#8, lowByte w, highByte w]
  | .aci v => [0xCE#8, v]
  | .rst1 => [0xCF#8]
  | .rnc => [0xD0#8]
  | .popDE => [0xD1#8]
  | .jnc w => [0xD2#8, lowByte w, highByte w]
  | .outPort v => [0xD3#8, v]
  | .cnc w => [0xD4#8, lowByte w, highByte w]
  | .pushDE => [0xD5#8]
  | .sui v => [0xD6#8, v]
  | .rst2 => [0xD7#8]
  | .rc => [0xD8#8]
  | .unimplementedD9 => [0xD9#8]
  | .jc w => [0xDA#8, lowByte w, highByte w]
  | .inPort v => [0xDB#8, v]
  | .cc w => [0xDC#8, lowByte w, highByte w]
  | .unimplementedDD => [0xDD#8]
  | .sbi v => [0xDE#8, v]
  | .rst3 => [0xDF#8]
  | .rpo => [0xE0#8]
  | .popHL => [0xE1#8]
  | .jpo w => [0xE2#8, lowByte w, highByte w]
  | .xthl => [0xE3#8]
  | .cpo w => [0xE4#8, lowByte w, highByte w]
  | .pushHL => [0xE5#8]
  | .ani v => [0xE6#8, v]
  | .rst4 => [0xE7#8]
  | .rpe => [0xE8#8]
  | .pchl => [0xE9#8]
  | .jpe w => [0xEA#8, lowByte w, highByte w]
  | .xchg => [0xEB#8]
  | .cpe w => [0xEC#8, lowByte w, highByte w]
  | .unimplementedED => [0xED#8]
  | .xri v => [0xEE#8, v]
  | .rst5 => [0xEF#8]
  | .rp => [0xF0#8]
  | .popPSW => [0xF1#8]
  | .jp w => [0xF2#8, lowByte w, highByte w]
  | .di => [0xF3#8]
  | .cp w => [0xF4#8, lowByte w, highByte w]
  | .pushPSW => [0xF5#8]
  | .ori v => [0xF6#8, v]
  | .rst6 => [0xF7#8]
  | .rm => [0xF8#8]
  | .sphl => [0xF9#8]
  | .jm w => [0xFA#8, lowByte w, highByte w]
  | .ei => [0xFB#8]
  | .cm w => [0xFC#8, lowByte w, highByte w]
  | .unimplementedFD => [0xFD#8]
  | .cpi v => [0xFE#8, v]
  | .rst7 => [0xFF#8]

/-- How many bytes an instruction has (R90). -/
def Instr.length (i : Instr) : Nat := (encode i).length

/-- The bytes of a table word: `w` holds `nbits` bits, bit 0 the least significant bit of the first byte; every bit
above them is 0, up to the longest instruction (three bytes). -/
def tableBytes (nbits w : Nat) : List Byte :=
  [BitVec.ofNat 8 (w % 2 ^ nbits), BitVec.ofNat 8 (w % 2 ^ nbits / 256), BitVec.ofNat 8 (w % 2 ^ nbits / 65536)]

/-- The instruction the decoder reads from a table word. -/
def decodeTableWord (nbits w : Nat) : Option Instr :=
  match decode (tableBytes nbits w) with
  | .ok (i, _) => some i
  | .error _ => none

end Sys2Proof
end

