-- ==== Sys2Proof/Machine/Ops.lean ====
section
/-! DEFINITION. The named operations over memory, PC and SP; taking an interrupt and returning from one; recording the
fatal error; fetching an instruction; the end of a step (20_memory.md; 43_stack_io_machine.md R230, R231;
60_exceptions.md R280, R291, R300; 30_encoding.md R93, R99). -/

namespace Sys2Proof.Machine

/-! ## Memory -/

/-- The byte at an address; an address that is not listed reads as 0x00, its reset value (R56, R332). -/
def Memory.read : Memory → Nat → Byte
  | [], _ => 0x00#8
  | (k, v) :: m, a => if k = a then v else Memory.read m a

/-- Writing one byte: the cells below, the byte unless it is 0x00, the cells above. -/
def Memory.write (m : Memory) (a : Nat) (v : Byte) : Memory :=
  m.filter (fun c => decide (c.1 < a)) ++ (if v = 0x00#8 then [] else [(a, v)]) ++ m.filter (fun c => decide (a < c.1))

/-- The canonical form: addresses strictly rising, none above 0xFFFF, no byte equal to what an unlisted address reads
as (R60; log 6). -/
abbrev Memory.wf (m : Memory) : Prop :=
  m.Pairwise (fun c k => c.1 < k.1) ∧ ∀ c ∈ m, c.1 < 65536 ∧ c.2 ≠ 0x00#8

/-- `MemRead(addr, 1)` (R12). -/
def State.readByte (s : State) (a : Word) : Byte := Memory.read s.mem a.toNat

/-- `MemWrite(addr, 1, v)` (R12). -/
def State.writeByte (s : State) (a : Word) (v : Byte) : State := { s with mem := Memory.write s.mem a.toNat v }

/-- `MemRead(addr, 2)`: low byte at `addr`, high byte at `addr + 1` modulo 65536 (R12, R63, R66). -/
def State.readWord (s : State) (a : Word) : Word := concat16 (s.readByte (a + 1#16)) (s.readByte a)

/-- `MemWrite(addr, 2, v)`: the low byte, then the high byte (R12, R63, R66). -/
def State.writeWord (s : State) (a : Word) (v : Word) : State :=
  (s.writeByte a (lowByte v)).writeByte (a + 1#16) (highByte v)

/-! ## Program counter and stack -/

/-- `pc <- target` (R13). -/
def State.jump (s : State) (target : Word) : State := { s with pc := target }

/-- `pc <- trunc16(pc0 + n)` (R37). -/
def State.advance (s : State) (n : Nat) : State := { s with pc := s.pc + BitVec.ofNat 16 n }

/-- `Push16(v)` (R230): SP minus 2, then the low byte at SP and the high byte at SP + 1. -/
def State.push16 (s : State) (v : Word) : State :=
  { s.writeWord (s.sp - 2#16) v with sp := s.sp - 2#16 }

/-- The value `Pop16()` returns (R231). -/
def State.top16 (s : State) : Word := s.readWord s.sp

/-- SP after `Pop16()` (R231); memory is not changed. -/
def State.drop16 (s : State) : State := { s with sp := s.sp + 2#16 }

/-! ## Interrupt entry, return, and the fatal error -/

/-- The vector `8*n` of RST and of interrupt entry (R217, R291). -/
def vector (n : Nat) : Word := BitVec.ofNat 16 (8 * n)

/-- Interrupt entry once accepted (R291): push pc, pc to the vector, IE, ei_pending and halted cleared. -/
def State.enterInterrupt (s : State) (n : Nat) : State :=
  { s.push16 s.pc with pc := vector n, interruptsEnabled := false, eiPending := false, halted := false }

/-- `raise_interrupt(n)` for n in 0..7: no effect while a fault is recorded (R290), entry when IE is true (R291), dropped
otherwise (R292). -/
def State.requestInterrupt (s : State) (n : Nat) : State :=
  if s.fault.isSome then s else if s.interruptsEnabled then s.enterInterrupt n else s

/-- `pc <- Pop16()`: RET, a taken Rcond, and so the return from an interrupt handler (R215, R216, R300). -/
def State.popPc (s : State) : State := s.drop16.jump s.top16

/-- `raise UnimplementedOpcode(op, pc0)`: the fault is recorded and nothing else is written (R13, R280; log 5). -/
def State.recordUnimplemented (s : State) (op : Byte) : State := { s with fault := some { op := op, addr := s.pc } }

/-! ## Fetch, and the end of a step -/

/-- The opcode byte at pc (R64). -/
def State.opcode (s : State) : Byte := s.readByte s.pc

/-- The instruction at pc: the opcode byte and the operand bytes at pc + 1 and pc + 2 modulo 65536, all read before
anything is written (R78, R93, R99; log 13). A form without an operand ignores the operand bytes. -/
def State.fetch (s : State) : Instr :=
  decodeOpcode s.opcode (s.readByte (s.pc + 1#16)) (concat16 (s.readByte (s.pc + 2#16)) (s.readByte (s.pc + 1#16)))

/-- The three bytes from pc on, where an instruction is fetched. -/
def State.codeBytes (s : State) : List Byte := [s.readByte s.pc, s.readByte (s.pc + 1#16), s.readByte (s.pc + 2#16)]

/-- The end of a step under EI_DEFERRED (R99, R243): after an instruction other than EI that raised no error, a
pending EI takes effect. -/
def State.settleEi (s : State) (op : Byte) : State :=
  if s.fault.isNone ∧ s.params.eiDeferred = true ∧ op ≠ 0xFB#8 ∧ s.eiPending = true then
    { s with interruptsEnabled := true, eiPending := false }
  else s

/-- What a step adds after the instruction with opcode byte `op`. -/
def finishStep (op : Byte) : Result → Result
  | .next s    => .next (s.settleEi op)
  | .fault r   => .fault r
  | .refused r => .refused r

end Sys2Proof.Machine
end

