-- ==== Sys2Proof/Machine/Operands.lean ====
section
/-! DEFINITION. Every operand form: the 8-bit operand `REG(r)` with M = memory[HL], the register pair `RP(p)`, the pair of
PUSH and POP, the condition (10_state.md R33-R35; 42_branch.md R210; 43_stack_io_machine.md R232-R235). -/

namespace Sys2Proof.Machine

/-- HL, the address of M (R33, R35). -/
def State.hl (s : State) : Word := concat16 s.regs.h s.regs.l

/-- `REG(r)` (R33). -/
def State.readReg (s : State) (r : Reg8) : Byte :=
  match r with
  | .b => s.regs.b
  | .c => s.regs.c
  | .d => s.regs.d
  | .e => s.regs.e
  | .h => s.regs.h
  | .l => s.regs.l
  | .m => s.readByte s.hl
  | .a => s.regs.a

/-- `REG(r) <- v` (R33); for M the byte at HL. -/
def State.writeReg (s : State) (r : Reg8) (v : Byte) : State :=
  match r with
  | .b => { s with regs := { s.regs with b := v } }
  | .c => { s with regs := { s.regs with c := v } }
  | .d => { s with regs := { s.regs with d := v } }
  | .e => { s with regs := { s.regs with e := v } }
  | .h => { s with regs := { s.regs with h := v } }
  | .l => { s with regs := { s.regs with l := v } }
  | .m => s.writeByte s.hl v
  | .a => { s with regs := { s.regs with a := v } }

/-- `RP(p)` (R34, R35). -/
def State.readPair (s : State) (p : RegPair) : Word :=
  match p with
  | .bc => concat16 s.regs.b s.regs.c
  | .de => concat16 s.regs.d s.regs.e
  | .hl => concat16 s.regs.h s.regs.l
  | .sp => s.sp

/-- `RP(p) <- v`: the two halves of the pair, or SP (R35). -/
def State.writePair (s : State) (p : RegPair) (v : Word) : State :=
  match p with
  | .bc => { s with regs := { s.regs with b := highByte v, c := lowByte v } }
  | .de => { s with regs := { s.regs with d := highByte v, e := lowByte v } }
  | .hl => { s with regs := { s.regs with h := highByte v, l := lowByte v } }
  | .sp => { s with sp := v }

/-- What PUSH pushes: the pair, or the flag byte over A for PSW (R232, R233). -/
def State.readStackPair (s : State) (p : StackPair) : Word :=
  match p with
  | .bc  => s.readPair .bc
  | .de  => s.readPair .de
  | .hl  => s.readPair .hl
  | .psw => concat16 s.flags.toByte s.regs.a

/-- What POP does with the popped value: the pair, or A and the flags for PSW (R234, R235). -/
def State.writeStackPair (s : State) (p : StackPair) (v : Word) : State :=
  match p with
  | .bc  => s.writePair .bc v
  | .de  => s.writePair .de v
  | .hl  => s.writePair .hl v
  | .psw => { s with regs := { s.regs with a := lowByte v }, flags := Flags.ofByte (highByte v) }

/-- `cond(ccc)` (R210). -/
def Cond.holds (k : Cond) (f : Flags) : Bool :=
  match k with
  | .nz => !f.zero
  | .z  => f.zero
  | .nc => !f.carry
  | .c  => f.carry
  | .po => !f.parity
  | .pe => f.parity
  | .p  => !f.sign
  | .m  => f.sign

end Sys2Proof.Machine
end

