-- ==== Sys2Proof/Machine/Alu.lean ====
section
/-! DEFINITION. The eight ALU operations on A and an operand byte, and their two instruction forms
(41_arith_logic_rotate.md R150-R166, R177-R188). -/

namespace Sys2Proof.Machine

/-- An ALU result written to A with its flags (R155-R166). -/
def State.accumulate (s : State) (r : AluOut) : State :=
  { s with regs := { s.regs with a := r.res }, flags := s.flags.arith r }

/-- A logical result written to A with its flags (R154, R177-R185). -/
def State.accumulateLogic (s : State) (res : Byte) : State :=
  { s with regs := { s.regs with a := res }, flags := s.flags.logic res }

/-- One ALU operation on A and the operand byte y: ADD, ADC, SUB, SBB (R155-R166), ANA, XRA, ORA (R177-R185), CMP, which
leaves A (R186-R188). -/
def aluApply (op : AluOp) (y : Byte) (s : State) : State :=
  match op with
  | .add => s.accumulate (add8 s.regs.a y false)
  | .adc => s.accumulate (add8 s.regs.a y s.flags.carry)
  | .sub => s.accumulate (sub8 s.regs.a y false)
  | .sbb => s.accumulate (sub8 s.regs.a y s.flags.carry)
  | .ana => s.accumulateLogic (s.regs.a &&& y)
  | .xra => s.accumulateLogic (s.regs.a ^^^ y)
  | .ora => s.accumulateLogic (s.regs.a ||| y)
  | .cmp => { s with flags := s.flags.arith (sub8 s.regs.a y false) }

/-- The register and M form: one byte long. -/
def aluReg (op : AluOp) (r : Reg8) (s : State) : Result := .next ((aluApply op (s.readReg r) s).advance 1)

/-- The immediate form: two bytes long. -/
def aluImm (op : AluOp) (d8 : Byte) (s : State) : Result := .next ((aluApply op d8 s).advance 2)

end Sys2Proof.Machine
end

