-- ==== Sys2Proof/Machine/Arith.lean ====
section
/-! DEFINITION. Arithmetic: ADD, ADC, SUB, SBB and their immediates, INR, DCR, INX, DCX, DAD, DAA
(41_arith_logic_rotate.md R155-R176). -/

namespace Sys2Proof.Machine

/-! ## Shared operations -/

/-- INR r and INR M: CY is not touched (R167, R168; AC by D16, log 11). -/
def inrReg (r : Reg8) (s : State) : Result :=
  .next ({ s.writeReg r (add8 (s.readReg r) 1#8 false).res with
           flags := s.flags.incDec (add8 (s.readReg r) 1#8 false) }.advance 1)

/-- DCR r and DCR M: CY is not touched (R169, R170; AC by D16, log 11). -/
def dcrReg (r : Reg8) (s : State) : Result :=
  .next ({ s.writeReg r (sub8 (s.readReg r) 1#8 false).res with
           flags := s.flags.incDec (sub8 (s.readReg r) 1#8 false) }.advance 1)

/-- INX rp: no flag is written (R171). -/
def inxPair (p : RegPair) (s : State) : Result := .next ((s.writePair p (s.readPair p + 1#16)).advance 1)

/-- DCX rp: no flag is written (R172). -/
def dcxPair (p : RegPair) (s : State) : Result := .next ((s.writePair p (s.readPair p - 1#16)).advance 1)

/-- DAD rp: HL plus the pair; CY only (R173). -/
def dadPair (p : RegPair) (s : State) : Result :=
  .next ({ s.writePair .hl (add16 s.hl (s.readPair p)).1 with
           flags := { s.flags with carry := (add16 s.hl (s.readPair p)).2 } }.advance 1)

/-! ## Meanings -/

/-- ADD B (R155). -/
def execAddB (s : State) : Result := aluReg .add .b s

/-- ADD C (R155). -/
def execAddC (s : State) : Result := aluReg .add .c s

/-- ADD D (R155). -/
def execAddD (s : State) : Result := aluReg .add .d s

/-- ADD E (R155). -/
def execAddE (s : State) : Result := aluReg .add .e s

/-- ADD H (R155). -/
def execAddH (s : State) : Result := aluReg .add .h s

/-- ADD L (R155). -/
def execAddL (s : State) : Result := aluReg .add .l s

/-- ADD A (R155). -/
def execAddA (s : State) : Result := aluReg .add .a s

/-- ADD M (R156). -/
def execAddM (s : State) : Result := aluReg .add .m s

/-- ADI d8 (R157). -/
def execAdi (d8 : Byte) (s : State) : Result := aluImm .add d8 s

/-- ADC B (R158). -/
def execAdcB (s : State) : Result := aluReg .adc .b s

/-- ADC C (R158). -/
def execAdcC (s : State) : Result := aluReg .adc .c s

/-- ADC D (R158). -/
def execAdcD (s : State) : Result := aluReg .adc .d s

/-- ADC E (R158). -/
def execAdcE (s : State) : Result := aluReg .adc .e s

/-- ADC H (R158). -/
def execAdcH (s : State) : Result := aluReg .adc .h s

/-- ADC L (R158). -/
def execAdcL (s : State) : Result := aluReg .adc .l s

/-- ADC A (R158). -/
def execAdcA (s : State) : Result := aluReg .adc .a s

/-- ADC M (R159). -/
def execAdcM (s : State) : Result := aluReg .adc .m s

/-- ACI d8 (R160). -/
def execAci (d8 : Byte) (s : State) : Result := aluImm .adc d8 s

/-- SUB B (R161). -/
def execSubB (s : State) : Result := aluReg .sub .b s

/-- SUB C (R161). -/
def execSubC (s : State) : Result := aluReg .sub .c s

/-- SUB D (R161). -/
def execSubD (s : State) : Result := aluReg .sub .d s

/-- SUB E (R161). -/
def execSubE (s : State) : Result := aluReg .sub .e s

/-- SUB H (R161). -/
def execSubH (s : State) : Result := aluReg .sub .h s

/-- SUB L (R161). -/
def execSubL (s : State) : Result := aluReg .sub .l s

/-- SUB A (R161). -/
def execSubA (s : State) : Result := aluReg .sub .a s

/-- SUB M (R162). -/
def execSubM (s : State) : Result := aluReg .sub .m s

/-- SUI d8 (R163). -/
def execSui (d8 : Byte) (s : State) : Result := aluImm .sub d8 s

/-- SBB B (R164). -/
def execSbbB (s : State) : Result := aluReg .sbb .b s

/-- SBB C (R164). -/
def execSbbC (s : State) : Result := aluReg .sbb .c s

/-- SBB D (R164). -/
def execSbbD (s : State) : Result := aluReg .sbb .d s

/-- SBB E (R164). -/
def execSbbE (s : State) : Result := aluReg .sbb .e s

/-- SBB H (R164). -/
def execSbbH (s : State) : Result := aluReg .sbb .h s

/-- SBB L (R164). -/
def execSbbL (s : State) : Result := aluReg .sbb .l s

/-- SBB A (R164). -/
def execSbbA (s : State) : Result := aluReg .sbb .a s

/-- SBB M (R165). -/
def execSbbM (s : State) : Result := aluReg .sbb .m s

/-- SBI d8 (R166). -/
def execSbi (d8 : Byte) (s : State) : Result := aluImm .sbb d8 s

/-- INR B (R167). -/
def execInrB (s : State) : Result := inrReg .b s

/-- INR C (R167). -/
def execInrC (s : State) : Result := inrReg .c s

/-- INR D (R167). -/
def execInrD (s : State) : Result := inrReg .d s

/-- INR E (R167). -/
def execInrE (s : State) : Result := inrReg .e s

/-- INR H (R167). -/
def execInrH (s : State) : Result := inrReg .h s

/-- INR L (R167). -/
def execInrL (s : State) : Result := inrReg .l s

/-- INR A (R167). -/
def execInrA (s : State) : Result := inrReg .a s

/-- INR M (R168). -/
def execInrM (s : State) : Result := inrReg .m s

/-- DCR B (R169). -/
def execDcrB (s : State) : Result := dcrReg .b s

/-- DCR C (R169). -/
def execDcrC (s : State) : Result := dcrReg .c s

/-- DCR D (R169). -/
def execDcrD (s : State) : Result := dcrReg .d s

/-- DCR E (R169). -/
def execDcrE (s : State) : Result := dcrReg .e s

/-- DCR H (R169). -/
def execDcrH (s : State) : Result := dcrReg .h s

/-- DCR L (R169). -/
def execDcrL (s : State) : Result := dcrReg .l s

/-- DCR A (R169). -/
def execDcrA (s : State) : Result := dcrReg .a s

/-- DCR M (R170). -/
def execDcrM (s : State) : Result := dcrReg .m s

/-- INX BC (R171). -/
def execInxBC (s : State) : Result := inxPair .bc s

/-- INX DE (R171). -/
def execInxDE (s : State) : Result := inxPair .de s

/-- INX HL (R171). -/
def execInxHL (s : State) : Result := inxPair .hl s

/-- INX SP (R171). -/
def execInxSP (s : State) : Result := inxPair .sp s

/-- DCX BC (R172). -/
def execDcxBC (s : State) : Result := dcxPair .bc s

/-- DCX DE (R172). -/
def execDcxDE (s : State) : Result := dcxPair .de s

/-- DCX HL (R172). -/
def execDcxHL (s : State) : Result := dcxPair .hl s

/-- DCX SP (R172). -/
def execDcxSP (s : State) : Result := dcxPair .sp s

/-- DAD BC (R173). -/
def execDadBC (s : State) : Result := dadPair .bc s

/-- DAD DE (R173). -/
def execDadDE (s : State) : Result := dadPair .de s

/-- DAD HL (R173). -/
def execDadHL (s : State) : Result := dadPair .hl s

/-- DAD SP (R173). -/
def execDadSP (s : State) : Result := dadPair .sp s

/-- DAA by the machine's variant (R174-R176; log 9). -/
def execDaa (s : State) : Result :=
  .next ({ s with
      regs := { s.regs with a := (daa s.params.daaVariant s.regs.a s.flags).1 }
      flags := (daa s.params.daaVariant s.regs.a s.flags).2 }.advance 1)

end Sys2Proof.Machine
end

