-- ==== Sys2Proof/Machine/Branch.lean ====
section
/-! DEFINITION. Branch, call and return: JMP, Jcond, CALL, Ccond, RET, Rcond, RST, PCHL (42_branch.md R210-R219). -/

namespace Sys2Proof.Machine

/-! ## Shared operations -/

/-- A call from an instruction of `n` bytes: the address after it is pushed, then pc goes to the target
(R213, R214, R217). -/
def State.callTo (s : State) (n : Nat) (target : Word) : State :=
  (s.push16 (s.pc + BitVec.ofNat 16 n)).jump target

/-- Jcond a16 (R212). -/
def jumpIf (k : Cond) (a16 : Word) (s : State) : Result :=
  .next (if k.holds s.flags then s.jump a16 else s.advance 3)

/-- Ccond a16 (R214). -/
def callIf (k : Cond) (a16 : Word) (s : State) : Result :=
  .next (if k.holds s.flags then s.callTo 3 a16 else s.advance 3)

/-- Rcond (R216). -/
def retIf (k : Cond) (s : State) : Result :=
  .next (if k.holds s.flags then s.popPc else s.advance 1)

/-- RST n (R217): IE is not changed. -/
def restart (n : Nat) (s : State) : Result := .next (s.callTo 1 (vector n))

/-! ## Meanings -/

/-- JMP a16 (R211). -/
def execJmp (a16 : Word) (s : State) : Result :=
  .next (s.jump a16)

/-- JNZ a16 (R212). -/
def execJnz (a16 : Word) (s : State) : Result := jumpIf .nz a16 s

/-- JZ a16 (R212). -/
def execJz (a16 : Word) (s : State) : Result := jumpIf .z a16 s

/-- JNC a16 (R212). -/
def execJnc (a16 : Word) (s : State) : Result := jumpIf .nc a16 s

/-- JC a16 (R212). -/
def execJc (a16 : Word) (s : State) : Result := jumpIf .c a16 s

/-- JPO a16 (R212). -/
def execJpo (a16 : Word) (s : State) : Result := jumpIf .po a16 s

/-- JPE a16 (R212). -/
def execJpe (a16 : Word) (s : State) : Result := jumpIf .pe a16 s

/-- JP a16 (R212). -/
def execJp (a16 : Word) (s : State) : Result := jumpIf .p a16 s

/-- JM a16 (R212). -/
def execJm (a16 : Word) (s : State) : Result := jumpIf .m a16 s

/-- CALL a16: the return address pc0 + 3 is pushed (R213). -/
def execCall (a16 : Word) (s : State) : Result :=
  .next (s.callTo 3 a16)

/-- CNZ a16 (R214). -/
def execCnz (a16 : Word) (s : State) : Result := callIf .nz a16 s

/-- CZ a16 (R214). -/
def execCz (a16 : Word) (s : State) : Result := callIf .z a16 s

/-- CNC a16 (R214). -/
def execCnc (a16 : Word) (s : State) : Result := callIf .nc a16 s

/-- CC a16 (R214). -/
def execCc (a16 : Word) (s : State) : Result := callIf .c a16 s

/-- CPO a16 (R214). -/
def execCpo (a16 : Word) (s : State) : Result := callIf .po a16 s

/-- CPE a16 (R214). -/
def execCpe (a16 : Word) (s : State) : Result := callIf .pe a16 s

/-- CP a16 (R214). -/
def execCp (a16 : Word) (s : State) : Result := callIf .p a16 s

/-- CM a16 (R214). -/
def execCm (a16 : Word) (s : State) : Result := callIf .m a16 s

/-- RET (R215); also the return from an interrupt handler (R300). -/
def execRet (s : State) : Result :=
  .next s.popPc

/-- RNZ (R216). -/
def execRnz (s : State) : Result := retIf .nz s

/-- RZ (R216). -/
def execRz (s : State) : Result := retIf .z s

/-- RNC (R216). -/
def execRnc (s : State) : Result := retIf .nc s

/-- RC (R216). -/
def execRc (s : State) : Result := retIf .c s

/-- RPO (R216). -/
def execRpo (s : State) : Result := retIf .po s

/-- RPE (R216). -/
def execRpe (s : State) : Result := retIf .pe s

/-- RP (R216). -/
def execRp (s : State) : Result := retIf .p s

/-- RM (R216). -/
def execRm (s : State) : Result := retIf .m s

/-- RST 0 (R217). -/
def execRst0 (s : State) : Result := restart 0 s

/-- RST 1 (R217). -/
def execRst1 (s : State) : Result := restart 1 s

/-- RST 2 (R217). -/
def execRst2 (s : State) : Result := restart 2 s

/-- RST 3 (R217). -/
def execRst3 (s : State) : Result := restart 3 s

/-- RST 4 (R217). -/
def execRst4 (s : State) : Result := restart 4 s

/-- RST 5 (R217). -/
def execRst5 (s : State) : Result := restart 5 s

/-- RST 6 (R217). -/
def execRst6 (s : State) : Result := restart 6 s

/-- RST 7 (R217). -/
def execRst7 (s : State) : Result := restart 7 s

/-- PCHL (R218). -/
def execPchl (s : State) : Result :=
  .next (s.jump s.hl)

end Sys2Proof.Machine
end

