-- ==== Sys2Proof/Machine/Ports.lean ====
section
/-! DEFINITION. The Space Invaders I/O shim: `PortIn` and `PortOut` (44_arcade_io_shim.md R260-R267). -/

namespace Sys2Proof.Machine

/-- The IN 3 result: bits (15 - offset) down to (8 - offset) of the shift register (R262). -/
def Shim.shiftResult (x : Shim) : BitVec 8 := (x.shiftRegister >>> (8 - x.shiftOffset.toNat)).setWidth 8

/-- OUT 4: the new byte enters the high half, the previous high half moves to the low half (R267). -/
def Shim.shiftIn (x : Shim) (v : BitVec 8) : Shim :=
  { x with shiftRegister := BitVec.ofNat 16 (v.toNat <<< 8 ||| x.shiftRegister.toNat >>> 8) }

/-- OUT 2: only bits 2:0 are kept (R266). -/
def Shim.setOffset (x : Shim) (v : BitVec 8) : Shim := { x with shiftOffset := v.setWidth 3 }

/-- `PortIn(p)` (R260): the latches, the shift result, or for p in 4..255 the next free value of `IN_UNMAPPED` (R263;
log 2). -/
def State.portIn (s : State) (p : BitVec 8) : BitVec 8 :=
  match p.toNat with
  | 0 => s.io.inputPort0
  | 1 => s.io.inputPort1
  | 2 => s.io.inputPort2
  | 3 => s.io.shiftResult
  | _ => Config.inUnmapped s.draws p

/-- The model's count of free values used: one more after a read of a port in 4..255 (R263, "fresh per read"; log 2). -/
def State.countDraw (s : State) (p : BitVec 8) : State :=
  if p.toNat < 4 then s else { s with draws := s.draws + 1 }

/-- `PortOut(p, v)` (R264): OUT 2 sets the shift offset, OUT 4 shifts a byte in, any other port has no effect (R265). -/
def State.portOut (s : State) (p : BitVec 8) (v : BitVec 8) : State :=
  match p.toNat with
  | 2 => { s with io := s.io.setOffset v }
  | 4 => { s with io := s.io.shiftIn v }
  | _ => s

end Sys2Proof.Machine
end

