-- ==== Sys2Proof/Machine/Control.lean ====
section
/-! DEFINITION. Input, output and machine control: IN, OUT, EI, DI, HLT, NOP (43_stack_io_machine.md R238-R244), and the
12 unimplemented opcode bytes (60_exceptions.md R280). -/

namespace Sys2Proof.Machine

/-! ## Shared operations -/

/-- An unimplemented opcode byte: the fault is recorded, pc stays, nothing else is written (R280, D10; log 5). -/
def unimplemented (op : Byte) (s : State) : Result := .next (s.recordUnimplemented op)

/-! ## Meanings -/

/-- IN port (R238): A from the port; a read of ports 4..255 uses up one free value (log 2). -/
def execInPort (port : Byte) (s : State) : Result :=
  .next ((({ s with regs := { s.regs with a := s.portIn port } }).countDraw port).advance 2)

/-- OUT port (R239): A to the port. -/
def execOutPort (port : Byte) (s : State) : Result :=
  .next ((s.portOut port s.regs.a).advance 2)

/-- EI (R240): at once, or pending under EI_DEFERRED (R243; log 8). -/
def execEi (s : State) : Result :=
  .next (if s.params.eiDeferred then { s with eiPending := true }.advance 1
    else { s with interruptsEnabled := true }.advance 1)

/-- DI: IE and a pending EI are cleared (R241). -/
def execDi (s : State) : Result :=
  .next ({ s with interruptsEnabled := false, eiPending := false }.advance 1)

/-- HLT: halted, with pc already past it (R242). -/
def execHlt (s : State) : Result :=
  .next ({ s with halted := true }.advance 1)

/-- NOP (R244). -/
def execNop (s : State) : Result :=
  .next (s.advance 1)

/-- Opcode 0x08 (R280). -/
def execUnimplemented08 (s : State) : Result := unimplemented 0x08#8 s

/-- Opcode 0x10 (R280). -/
def execUnimplemented10 (s : State) : Result := unimplemented 0x10#8 s

/-- Opcode 0x18 (R280). -/
def execUnimplemented18 (s : State) : Result := unimplemented 0x18#8 s

/-- Opcode 0x20 (R280). -/
def execUnimplemented20 (s : State) : Result := unimplemented 0x20#8 s

/-- Opcode 0x28 (R280). -/
def execUnimplemented28 (s : State) : Result := unimplemented 0x28#8 s

/-- Opcode 0x30 (R280). -/
def execUnimplemented30 (s : State) : Result := unimplemented 0x30#8 s

/-- Opcode 0x38 (R280). -/
def execUnimplemented38 (s : State) : Result := unimplemented 0x38#8 s

/-- Opcode 0xCB (R280). -/
def execUnimplementedCB (s : State) : Result := unimplemented 0xCB#8 s

/-- Opcode 0xD9 (R280). -/
def execUnimplementedD9 (s : State) : Result := unimplemented 0xD9#8 s

/-- Opcode 0xDD (R280). -/
def execUnimplementedDD (s : State) : Result := unimplemented 0xDD#8 s

/-- Opcode 0xED (R280). -/
def execUnimplementedED (s : State) : Result := unimplemented 0xED#8 s

/-- Opcode 0xFD (R280). -/
def execUnimplementedFD (s : State) : Result := unimplemented 0xFD#8 s

end Sys2Proof.Machine
end

