-- ==== Sys2Proof/Machine/DataTransfer.lean ====
section
/-! DEFINITION. Data transfer: MOV, MVI, LXI, LDA, STA, LHLD, SHLD, LDAX, STAX, XCHG (40_data_transfer.md R130-R143). -/

namespace Sys2Proof.Machine

/-! ## Shared operations -/

/-- MOV dst,src: the source is read, then the destination written, HL being as it was (R130-R132). -/
def movReg (dst src : Reg8) (s : State) : Result := .next ((s.writeReg dst (s.readReg src)).advance 1)

/-- MVI r,d8 and MVI M,d8 (R133, R134). -/
def mviReg (dst : Reg8) (d8 : Byte) (s : State) : Result := .next ((s.writeReg dst d8).advance 2)

/-- LXI rp,d16 (R135). -/
def lxiPair (p : RegPair) (d16 : Word) (s : State) : Result := .next ((s.writePair p d16).advance 3)

/-- LDA a16 (R136). -/
def ldaDirect (a16 : Word) (s : State) : Result := .next ((s.writeReg .a (s.readByte a16)).advance 3)

/-- STA a16 (R137). -/
def staDirect (a16 : Word) (s : State) : Result := .next ((s.writeByte a16 s.regs.a).advance 3)

/-- LHLD a16: L from a16, H from a16 + 1 modulo 65536 (R138). -/
def lhldDirect (a16 : Word) (s : State) : Result := .next ((s.writePair .hl (s.readWord a16)).advance 3)

/-- SHLD a16: L to a16, H to a16 + 1 modulo 65536 (R139). -/
def shldDirect (a16 : Word) (s : State) : Result := .next ((s.writeWord a16 s.hl).advance 3)

/-- LDAX rp (R140). -/
def ldaxPair (p : RegPair) (s : State) : Result := .next ((s.writeReg .a (s.readByte (s.readPair p))).advance 1)

/-- STAX rp (R141). -/
def staxPair (p : RegPair) (s : State) : Result := .next ((s.writeByte (s.readPair p) s.regs.a).advance 1)

/-! ## Meanings -/

/-- MOV B,B (R130). -/
def execMovBB (s : State) : Result := movReg .b .b s

/-- MOV B,C (R130). -/
def execMovBC (s : State) : Result := movReg .b .c s

/-- MOV B,D (R130). -/
def execMovBD (s : State) : Result := movReg .b .d s

/-- MOV B,E (R130). -/
def execMovBE (s : State) : Result := movReg .b .e s

/-- MOV B,H (R130). -/
def execMovBH (s : State) : Result := movReg .b .h s

/-- MOV B,L (R130). -/
def execMovBL (s : State) : Result := movReg .b .l s

/-- MOV B,A (R130). -/
def execMovBA (s : State) : Result := movReg .b .a s

/-- MOV C,B (R130). -/
def execMovCB (s : State) : Result := movReg .c .b s

/-- MOV C,C (R130). -/
def execMovCC (s : State) : Result := movReg .c .c s

/-- MOV C,D (R130). -/
def execMovCD (s : State) : Result := movReg .c .d s

/-- MOV C,E (R130). -/
def execMovCE (s : State) : Result := movReg .c .e s

/-- MOV C,H (R130). -/
def execMovCH (s : State) : Result := movReg .c .h s

/-- MOV C,L (R130). -/
def execMovCL (s : State) : Result := movReg .c .l s

/-- MOV C,A (R130). -/
def execMovCA (s : State) : Result := movReg .c .a s

/-- MOV D,B (R130). -/
def execMovDB (s : State) : Result := movReg .d .b s

/-- MOV D,C (R130). -/
def execMovDC (s : State) : Result := movReg .d .c s

/-- MOV D,D (R130). -/
def execMovDD (s : State) : Result := movReg .d .d s

/-- MOV D,E (R130). -/
def execMovDE (s : State) : Result := movReg .d .e s

/-- MOV D,H (R130). -/
def execMovDH (s : State) : Result := movReg .d .h s

/-- MOV D,L (R130). -/
def execMovDL (s : State) : Result := movReg .d .l s

/-- MOV D,A (R130). -/
def execMovDA (s : State) : Result := movReg .d .a s

/-- MOV E,B (R130). -/
def execMovEB (s : State) : Result := movReg .e .b s

/-- MOV E,C (R130). -/
def execMovEC (s : State) : Result := movReg .e .c s

/-- MOV E,D (R130). -/
def execMovED (s : State) : Result := movReg .e .d s

/-- MOV E,E (R130). -/
def execMovEE (s : State) : Result := movReg .e .e s

/-- MOV E,H (R130). -/
def execMovEH (s : State) : Result := movReg .e .h s

/-- MOV E,L (R130). -/
def execMovEL (s : State) : Result := movReg .e .l s

/-- MOV E,A (R130). -/
def execMovEA (s : State) : Result := movReg .e .a s

/-- MOV H,B (R130). -/
def execMovHB (s : State) : Result := movReg .h .b s

/-- MOV H,C (R130). -/
def execMovHC (s : State) : Result := movReg .h .c s

/-- MOV H,D (R130). -/
def execMovHD (s : State) : Result := movReg .h .d s

/-- MOV H,E (R130). -/
def execMovHE (s : State) : Result := movReg .h .e s

/-- MOV H,H (R130). -/
def execMovHH (s : State) : Result := movReg .h .h s

/-- MOV H,L (R130). -/
def execMovHL (s : State) : Result := movReg .h .l s

/-- MOV H,A (R130). -/
def execMovHA (s : State) : Result := movReg .h .a s

/-- MOV L,B (R130). -/
def execMovLB (s : State) : Result := movReg .l .b s

/-- MOV L,C (R130). -/
def execMovLC (s : State) : Result := movReg .l .c s

/-- MOV L,D (R130). -/
def execMovLD (s : State) : Result := movReg .l .d s

/-- MOV L,E (R130). -/
def execMovLE (s : State) : Result := movReg .l .e s

/-- MOV L,H (R130). -/
def execMovLH (s : State) : Result := movReg .l .h s

/-- MOV L,L (R130). -/
def execMovLL (s : State) : Result := movReg .l .l s

/-- MOV L,A (R130). -/
def execMovLA (s : State) : Result := movReg .l .a s

/-- MOV A,B (R130). -/
def execMovAB (s : State) : Result := movReg .a .b s

/-- MOV A,C (R130). -/
def execMovAC (s : State) : Result := movReg .a .c s

/-- MOV A,D (R130). -/
def execMovAD (s : State) : Result := movReg .a .d s

/-- MOV A,E (R130). -/
def execMovAE (s : State) : Result := movReg .a .e s

/-- MOV A,H (R130). -/
def execMovAH (s : State) : Result := movReg .a .h s

/-- MOV A,L (R130). -/
def execMovAL (s : State) : Result := movReg .a .l s

/-- MOV A,A (R130). -/
def execMovAA (s : State) : Result := movReg .a .a s

/-- MOV B,M (R131). -/
def execMovBM (s : State) : Result := movReg .b .m s

/-- MOV C,M (R131). -/
def execMovCM (s : State) : Result := movReg .c .m s

/-- MOV D,M (R131). -/
def execMovDM (s : State) : Result := movReg .d .m s

/-- MOV E,M (R131). -/
def execMovEM (s : State) : Result := movReg .e .m s

/-- MOV H,M (R131). -/
def execMovHM (s : State) : Result := movReg .h .m s

/-- MOV L,M (R131). -/
def execMovLM (s : State) : Result := movReg .l .m s

/-- MOV A,M (R131). -/
def execMovAM (s : State) : Result := movReg .a .m s

/-- MOV M,B (R132). -/
def execMovMB (s : State) : Result := movReg .m .b s

/-- MOV M,C (R132). -/
def execMovMC (s : State) : Result := movReg .m .c s

/-- MOV M,D (R132). -/
def execMovMD (s : State) : Result := movReg .m .d s

/-- MOV M,E (R132). -/
def execMovME (s : State) : Result := movReg .m .e s

/-- MOV M,H (R132). -/
def execMovMH (s : State) : Result := movReg .m .h s

/-- MOV M,L (R132). -/
def execMovML (s : State) : Result := movReg .m .l s

/-- MOV M,A (R132). -/
def execMovMA (s : State) : Result := movReg .m .a s

/-- MVI B,d8 (R133). -/
def execMviB (d8 : Byte) (s : State) : Result := mviReg .b d8 s

/-- MVI C,d8 (R133). -/
def execMviC (d8 : Byte) (s : State) : Result := mviReg .c d8 s

/-- MVI D,d8 (R133). -/
def execMviD (d8 : Byte) (s : State) : Result := mviReg .d d8 s

/-- MVI E,d8 (R133). -/
def execMviE (d8 : Byte) (s : State) : Result := mviReg .e d8 s

/-- MVI H,d8 (R133). -/
def execMviH (d8 : Byte) (s : State) : Result := mviReg .h d8 s

/-- MVI L,d8 (R133). -/
def execMviL (d8 : Byte) (s : State) : Result := mviReg .l d8 s

/-- MVI A,d8 (R133). -/
def execMviA (d8 : Byte) (s : State) : Result := mviReg .a d8 s

/-- MVI M,d8 (R134). -/
def execMviM (d8 : Byte) (s : State) : Result := mviReg .m d8 s

/-- LXI BC,d16 (R135). -/
def execLxiBC (d16 : Word) (s : State) : Result := lxiPair .bc d16 s

/-- LXI DE,d16 (R135). -/
def execLxiDE (d16 : Word) (s : State) : Result := lxiPair .de d16 s

/-- LXI HL,d16 (R135). -/
def execLxiHL (d16 : Word) (s : State) : Result := lxiPair .hl d16 s

/-- LXI SP,d16 (R135). -/
def execLxiSP (d16 : Word) (s : State) : Result := lxiPair .sp d16 s

/-- LDA a16 (R136). -/
def execLda (a16 : Word) (s : State) : Result := ldaDirect a16 s

/-- STA a16 (R137). -/
def execSta (a16 : Word) (s : State) : Result := staDirect a16 s

/-- LHLD a16 (R138). -/
def execLhld (a16 : Word) (s : State) : Result := lhldDirect a16 s

/-- SHLD a16 (R139). -/
def execShld (a16 : Word) (s : State) : Result := shldDirect a16 s

/-- LDAX BC (R140). -/
def execLdaxBC (s : State) : Result := ldaxPair .bc s

/-- LDAX DE (R140). -/
def execLdaxDE (s : State) : Result := ldaxPair .de s

/-- STAX BC (R141). -/
def execStaxBC (s : State) : Result := staxPair .bc s

/-- STAX DE (R141). -/
def execStaxDE (s : State) : Result := staxPair .de s

/-- XCHG: HL and DE are exchanged (R142). -/
def execXchg (s : State) : Result :=
  .next (((s.writePair .hl (s.readPair .de)).writePair .de (s.readPair .hl)).advance 1)

end Sys2Proof.Machine
end

