-- ==== Sys2Proof/Machine/Logic.lean ====
section
/-! DEFINITION. Logical operations and compare: ANA, XRA, ORA, CMP and their immediates
(41_arith_logic_rotate.md R177-R188). -/

namespace Sys2Proof.Machine

/-! ## Meanings -/

/-- ANA B (R177). -/
def execAnaB (s : State) : Result := aluReg .ana .b s

/-- ANA C (R177). -/
def execAnaC (s : State) : Result := aluReg .ana .c s

/-- ANA D (R177). -/
def execAnaD (s : State) : Result := aluReg .ana .d s

/-- ANA E (R177). -/
def execAnaE (s : State) : Result := aluReg .ana .e s

/-- ANA H (R177). -/
def execAnaH (s : State) : Result := aluReg .ana .h s

/-- ANA L (R177). -/
def execAnaL (s : State) : Result := aluReg .ana .l s

/-- ANA A (R177). -/
def execAnaA (s : State) : Result := aluReg .ana .a s

/-- ANA M (R178). -/
def execAnaM (s : State) : Result := aluReg .ana .m s

/-- ANI d8 (R179). -/
def execAni (d8 : Byte) (s : State) : Result := aluImm .ana d8 s

/-- XRA B (R180). -/
def execXraB (s : State) : Result := aluReg .xra .b s

/-- XRA C (R180). -/
def execXraC (s : State) : Result := aluReg .xra .c s

/-- XRA D (R180). -/
def execXraD (s : State) : Result := aluReg .xra .d s

/-- XRA E (R180). -/
def execXraE (s : State) : Result := aluReg .xra .e s

/-- XRA H (R180). -/
def execXraH (s : State) : Result := aluReg .xra .h s

/-- XRA L (R180). -/
def execXraL (s : State) : Result := aluReg .xra .l s

/-- XRA A (R180). -/
def execXraA (s : State) : Result := aluReg .xra .a s

/-- XRA M (R181). -/
def execXraM (s : State) : Result := aluReg .xra .m s

/-- XRI d8 (R182). -/
def execXri (d8 : Byte) (s : State) : Result := aluImm .xra d8 s

/-- ORA B (R183). -/
def execOraB (s : State) : Result := aluReg .ora .b s

/-- ORA C (R183). -/
def execOraC (s : State) : Result := aluReg .ora .c s

/-- ORA D (R183). -/
def execOraD (s : State) : Result := aluReg .ora .d s

/-- ORA E (R183). -/
def execOraE (s : State) : Result := aluReg .ora .e s

/-- ORA H (R183). -/
def execOraH (s : State) : Result := aluReg .ora .h s

/-- ORA L (R183). -/
def execOraL (s : State) : Result := aluReg .ora .l s

/-- ORA A (R183). -/
def execOraA (s : State) : Result := aluReg .ora .a s

/-- ORA M (R184). -/
def execOraM (s : State) : Result := aluReg .ora .m s

/-- ORI d8 (R185). -/
def execOri (d8 : Byte) (s : State) : Result := aluImm .ora d8 s

/-- CMP B (R186). -/
def execCmpB (s : State) : Result := aluReg .cmp .b s

/-- CMP C (R186). -/
def execCmpC (s : State) : Result := aluReg .cmp .c s

/-- CMP D (R186). -/
def execCmpD (s : State) : Result := aluReg .cmp .d s

/-- CMP E (R186). -/
def execCmpE (s : State) : Result := aluReg .cmp .e s

/-- CMP H (R186). -/
def execCmpH (s : State) : Result := aluReg .cmp .h s

/-- CMP L (R186). -/
def execCmpL (s : State) : Result := aluReg .cmp .l s

/-- CMP A (R186). -/
def execCmpA (s : State) : Result := aluReg .cmp .a s

/-- CMP M (R187). -/
def execCmpM (s : State) : Result := aluReg .cmp .m s

/-- CPI d8 (R188). -/
def execCpi (d8 : Byte) (s : State) : Result := aluImm .cmp d8 s

end Sys2Proof.Machine
end

