-- ==== Sys2Proof/Machine/Rotate.lean ====
section
/-! DEFINITION. Rotates, complement and carry control: RLC, RRC, RAL, RAR, CMA, CMC, STC
(41_arith_logic_rotate.md R189-R195). "CY only" is the spec's own decision D6, followed (log 10). -/

namespace Sys2Proof.Machine

/-! ## Shared operations -/

/-- A bit as a byte. -/
def bit8 (b : Bool) : Byte := BitVec.ofNat 8 b.toNat

/-- `CY <- b`, no other flag. -/
def State.setCarry (s : State) (b : Bool) : State := { s with flags := { s.flags with carry := b } }

/-- What the four rotates share: A and CY written, no other flag (R189-R192). -/
def rotate (a : Byte) (cy : Bool) (s : State) : Result :=
  .next (({ s with regs := { s.regs with a := a } }.setCarry cy).advance 1)

/-! ## Meanings -/

/-- RLC: bit 7 to bit 0 and to CY (R189). -/
def execRlc (s : State) : Result :=
  rotate ((s.regs.a <<< 1) ||| bit8 (s.regs.a.getLsbD 7)) (s.regs.a.getLsbD 7) s

/-- RRC: bit 0 to bit 7 and to CY (R190). -/
def execRrc (s : State) : Result :=
  rotate ((s.regs.a >>> 1) ||| (bit8 (s.regs.a.getLsbD 0) <<< 7)) (s.regs.a.getLsbD 0) s

/-- RAL: 9-bit rotate left through CY (R191). -/
def execRal (s : State) : Result :=
  rotate ((s.regs.a <<< 1) ||| bit8 s.flags.carry) (s.regs.a.getLsbD 7) s

/-- RAR: 9-bit rotate right through CY (R192). -/
def execRar (s : State) : Result :=
  rotate ((s.regs.a >>> 1) ||| (bit8 s.flags.carry <<< 7)) (s.regs.a.getLsbD 0) s

/-- CMA: A is complemented, no flag is written (R193). -/
def execCma (s : State) : Result :=
  .next ({ s with regs := { s.regs with a := ~~~s.regs.a } }.advance 1)

/-- CMC (R194; log 10). -/
def execCmc (s : State) : Result :=
  .next ((s.setCarry (!s.flags.carry)).advance 1)

/-- STC (R195; log 10). -/
def execStc (s : State) : Result :=
  .next ((s.setCarry true).advance 1)

end Sys2Proof.Machine
end

