-- ==== Sys2Proof/Machine/Stack.lean ====
section
/-! DEFINITION. Stack instructions: PUSH, POP, XTHL, SPHL (43_stack_io_machine.md R232-R237). -/

namespace Sys2Proof.Machine

/-! ## Shared operations -/

/-- PUSH rp and PUSH PSW (R232, R233). -/
def pushPair (p : StackPair) (s : State) : Result := .next ((s.push16 (s.readStackPair p)).advance 1)

/-- POP rp and POP PSW (R234, R235). -/
def popPair (p : StackPair) (s : State) : Result := .next ((s.drop16.writeStackPair p s.top16).advance 1)

/-! ## Meanings -/

/-- PUSH BC (R232). -/
def execPushBC (s : State) : Result := pushPair .bc s

/-- PUSH DE (R232). -/
def execPushDE (s : State) : Result := pushPair .de s

/-- PUSH HL (R232). -/
def execPushHL (s : State) : Result := pushPair .hl s

/-- PUSH PSW (R233). -/
def execPushPSW (s : State) : Result := pushPair .psw s

/-- POP BC (R234). -/
def execPopBC (s : State) : Result := popPair .bc s

/-- POP DE (R234). -/
def execPopDE (s : State) : Result := popPair .de s

/-- POP HL (R234). -/
def execPopHL (s : State) : Result := popPair .hl s

/-- POP PSW (R235). -/
def execPopPSW (s : State) : Result := popPair .psw s

/-- XTHL: HL and the 16-bit value at SP are exchanged, SP kept (R236). -/
def execXthl (s : State) : Result :=
  .next (((s.writeWord s.sp s.hl).writePair .hl (s.readWord s.sp)).advance 1)

/-- SPHL (R237). -/
def execSphl (s : State) : Result :=
  .next ({ s with sp := s.hl }.advance 1)

end Sys2Proof.Machine
end

