-- ==== Sys2Proof/Machine/Step.lean ====
section
/-! DEFINITION. One step of the CPU, and where a table word is placed so that the next step runs it (30_encoding.md R99). -/

namespace Sys2Proof.Machine

/-- The CPU step (R99): a faulted state has none (R280); a halted one changes nothing (R295); otherwise the instruction
at pc is fetched and executed, and a pending EI settled. -/
def step (s : State) : Host.Outcome State Fault Refusal :=
  match s.fault with
  | some r => .fault (.unimplementedOpcode r.op r.addr)
  | none => if s.halted then .next s else finishStep s.opcode (exec s.fetch s)

/-- `s` with the bytes of a table word stored at pc, pc + 1 and pc + 2, and neither halted nor faulted, so that the very
next step fetches and runs that instruction (log 16). -/
def State.withFetchWord (s : State) (nbits w : Nat) : State :=
  { ((s.writeByte s.pc ((tableBytes nbits w).getD 0 0#8)).writeByte (s.pc + 1#16) ((tableBytes nbits w).getD 1 0#8)).writeByte
      (s.pc + 2#16) ((tableBytes nbits w).getD 2 0#8) with
    halted := false
    fault := none }

end Sys2Proof.Machine
end

