-- ==== Sys2Proof/Machine/Cycles.lean ====
section
/-! DEFINITION. The cycle count a step returns (70_reset_and_hazards.md R345, R346). It is an output, not state, and no
rule of the core depends on it. Most numbers are the spec's general knowledge (G4): PRESUMED, log 4. -/

namespace Sys2Proof.Machine

/-- A count in machine cycles and in T-states. -/
structure CycleCount where
  machine : Nat
  tStates : Nat
  deriving DecidableEq, Repr

/-- The count in the unit of CYCLE_UNIT (R345). -/
def CycleCount.inUnit (n : CycleCount) (u : CycleUnit) : Nat :=
  match u with
  | .machineCycles => n.machine
  | .tStates       => n.tStates

/-- The row of R346 for opcodes 00xxxccc, by the column `ccc`; `mid` is bits 5:3. -/
def cycles0 (column : Nat) (mid : Reg8) : CycleCount :=
  match column with
  | 0 => ⟨1, 4⟩                                                       -- NOP
  | 1 => ⟨3, 10⟩                                                      -- LXI, DAD
  | 2 => match mid with
    | .b | .c | .d | .e => ⟨2, 7⟩                                     -- STAX, LDAX
    | .h | .l => ⟨5, 16⟩                                              -- SHLD, LHLD
    | .m | .a => ⟨4, 13⟩                                              -- STA, LDA
  | 3 => ⟨1, 5⟩                                                       -- INX, DCX
  | 4 | 5 => if mid = .m then ⟨3, 10⟩ else ⟨1, 5⟩                      -- INR, DCR
  | 6 => if mid = .m then ⟨3, 10⟩ else ⟨2, 7⟩                          -- MVI
  | _ => ⟨1, 4⟩                                                       -- DAA, rotates, CMA, STC, CMC

/-- The row of R346 for opcodes 11xxxccc; `taken` says whether the condition of a Ccond or Rcond holds. -/
def cycles3 (column : Nat) (op : Byte) (taken : Bool) : CycleCount :=
  match column with
  | 0 => if taken then ⟨3, 11⟩ else ⟨1, 5⟩                             -- Rcond
  | 1 => if op = 0xE9#8 ∨ op = 0xF9#8 then ⟨1, 5⟩ else ⟨3, 10⟩             -- PCHL, SPHL; POP, RET
  | 2 => ⟨3, 10⟩                                                      -- Jcond
  | 3 => if op = 0xE3#8 then ⟨5, 18⟩                                    -- XTHL
         else if op = 0xEB#8 ∨ op = 0xF3#8 ∨ op = 0xFB#8 then ⟨1, 4⟩         -- XCHG, DI, EI
         else ⟨3, 10⟩                                                 -- JMP, OUT, IN
  | 4 => if taken then ⟨5, 17⟩ else ⟨3, 11⟩                            -- Ccond
  | 5 => if op = 0xCD#8 then ⟨5, 17⟩ else ⟨3, 11⟩                        -- CALL; PUSH
  | 6 => ⟨2, 7⟩                                                       -- ADI to CPI
  | _ => ⟨3, 11⟩                                                      -- RST

/-- The 3-bit code in bits 5:3, and in bits 2:0, of an opcode byte (R91). -/
def midCode (op : Byte) : Reg8 := .ofBits (op.getLsbD 5) (op.getLsbD 4) (op.getLsbD 3)
def lowCode (op : Byte) : Reg8 := .ofBits (op.getLsbD 2) (op.getLsbD 1) (op.getLsbD 0)

/-- The table of R346, by opcode byte. -/
def opcodeCycles (op : Byte) (taken : Bool) : CycleCount :=
  match op.getLsbD 7, op.getLsbD 6 with
  | false, false => cycles0 (op &&& 0x07#8).toNat (midCode op)
  | false, true  =>
    if op = 0x76#8 then ⟨1, 7⟩                                           -- HLT
    else if midCode op = .m ∨ lowCode op = .m then ⟨2, 7⟩              -- MOV with M
    else ⟨1, 5⟩                                                       -- MOV r,r
  | true,  false => if lowCode op = .m then ⟨2, 7⟩ else ⟨1, 4⟩          -- ALU M; ALU r
  | true,  true  => cycles3 (op &&& 0x07#8).toNat op taken

/-- Whether the condition in bits 5:3 of an opcode byte holds (R210). -/
def conditionTaken (op : Byte) (f : Flags) : Bool :=
  (Cond.ofBits (op.getLsbD 5) (op.getLsbD 4) (op.getLsbD 3)).holds f

/-- The opcode bytes with no handler (R97). -/
def unimplementedOpcodes : List Byte :=
  [0x08#8, 0x10#8, 0x18#8, 0x20#8, 0x28#8, 0x30#8, 0x38#8, 0xCB#8, 0xD9#8, 0xDD#8, 0xED#8, 0xFD#8]

/-- The count the step from `s` returns: none from a faulted state or at an unimplemented opcode (R280, R345),
`HALT_CYCLES` while halted (R295), else the row of R346 in the unit of CYCLE_UNIT. -/
def stepCycles (s : State) : Option Nat :=
  if s.fault.isSome then none
  else if s.halted then some Config.haltCycles
  else if unimplementedOpcodes.contains s.opcode then none
  else some ((opcodeCycles s.opcode (conditionTaken s.opcode s.flags)).inUnit s.params.cycleUnit)

end Sys2Proof.Machine
end

