-- ==== Sys2Proof/Machine/HostActions.lean ====
section
/-! DEFINITION. Launch and the host's actions between CPU steps (60_exceptions.md R290-R293, R306, R307;
70_reset_and_hazards.md R330-R335). -/

namespace Sys2Proof.Machine

/-- The image placed from an address on: `memory[a + i] <- ROM[i]`, in canonical form (R333). -/
def Memory.ofImage : List Byte → Nat → Memory
  | [], _ => []
  | v :: image, a => (if v = 0x00#8 then [] else [(a, v)]) ++ Memory.ofImage image (a + 1)

/-- Launch (R330): the reset state with the ROM image from address 0; an image over 65536 bytes is refused (R333, D11).
The parameters are those of R8. -/
def launch (params : Params) (image : List Byte) : Result :=
  if romImageOk image then .next { State.reset with mem := Memory.ofImage image 0, params := params }
  else .refused (.romImageTooLong image.length)

/-- What the host can do between two CPU steps (R306). -/
inductive HostAction where
  /-- (a) write a byte to `input_ports[index]` -/
  | writeInput (index : Nat) (v : BitVec 8)
  /-- (b) read a byte of memory; what it reads is `hostRead` -/
  | readMemory (addr : BitVec 16)
  /-- (c) call `raise_interrupt(n)` -/
  | raiseInterrupt (n : Nat)
  deriving DecidableEq, Repr

/-- The byte a host read of memory gives; it changes nothing (R306 b, R69). -/
def hostRead (s : State) (addr : Word) : Byte := s.readByte addr

/-- `input_ports[index] <- v` (R52, R306 a). -/
def State.setInput (s : State) (index : Nat) (v : Byte) : State :=
  match index with
  | 0 => { s with io := { s.io with inputPort0 := v } }
  | 1 => { s with io := { s.io with inputPort1 := v } }
  | 2 => { s with io := { s.io with inputPort2 := v } }
  | _ => s

/-- A host write to a latch: none in a faulted state, which no agent changes (R49; log 15). -/
def writeInput (index : Nat) (v : Byte) (s : State) : Result :=
  if inputIndexOk index then
    match s.fault with
    | some r => .fault (.unimplementedOpcode r.op r.addr)
    | none => .next (s.setInput index v)
  else .refused (.inputIndex index)

/-- `raise_interrupt(n)` (R290-R292). -/
def raiseInterrupt (n : Nat) (s : State) : Result :=
  if interruptNumberOk n then .next (s.requestInterrupt n) else .refused (.interruptNumber n)

/-- One host action (R306). -/
def hostStep (action : HostAction) (s : State) : Result :=
  match action with
  | .writeInput index v => writeInput index v s
  | .readMemory _ => .next s
  | .raiseInterrupt n => raiseInterrupt n s

end Sys2Proof.Machine
end

