-- ==== Sys2Proof/Machine/System.lean ====
section
/-! DEFINITION. The two agents together: one move of the CPU or of the host, and any interleaving of them at instruction
granularity (20_memory.md R74; 60_exceptions.md R305, D20; log 17). -/

namespace Sys2Proof.Machine

/-- One move: a CPU step, or a host action between two CPU steps (R305). -/
inductive Event where
  | cpu
  | host (action : HostAction)
  deriving DecidableEq, Repr

/-- One move of the system. -/
def systemStep (e : Event) (s : State) : Result :=
  match e with
  | .cpu => step s
  | .host action => hostStep action s

/-- The moves of a schedule in order, stopping at the first that has no next state. -/
def runEvents : List Event → State → Result
  | [], s => .next s
  | e :: es, s =>
    match systemStep e s with
    | .next t    => runEvents es t
    | .fault r   => .fault r
    | .refused r => .refused r

end Sys2Proof.Machine
end

