-- ==== Sys2Proof/Safety.lean ====
section
/-! DEFINITION. The terms claims use: how a run ends, and the invariant of the machine (60_exceptions.md R308;
10_state.md R48, R49). -/

namespace Sys2Proof.Machine

/-- A fault is recorded: quiescent, never a successful end (R308 (1)). -/
abbrev State.Faulted (s : State) : Prop := s.fault ≠ none

/-- The only successful end of a run: halted with IE false, and no fault recorded (R308 (2)). -/
abbrev State.SuccessfulEnd (s : State) : Prop := s.fault = none ∧ s.halted = true ∧ s.interruptsEnabled = false

/-- Halted with IE true: it waits for the host's next interrupt (R308). -/
abbrev State.Waiting (s : State) : Prop := s.fault = none ∧ s.halted = true ∧ s.interruptsEnabled = true

/-- A recorded fault names an unimplemented opcode byte, the byte that stands at pc, and pc itself (R280, R299). -/
abbrev State.FaultReportTrue (s : State) : Prop :=
  ∀ r, s.fault = some r → unimplementedOpcodes.contains r.op = true ∧ r.addr = s.pc ∧ s.readByte s.pc = r.op

/-- The invariant of the machine: memory is in canonical form (R60), an EI is pending only where EI_DEFERRED is set
(R48), and a recorded fault is a true report (R280). -/
structure State.Inv (s : State) : Prop where
  memory    : Memory.wf s.mem
  eiPending : s.params.eiDeferred = false → s.eiPending = false
  report    : s.FaultReportTrue

end Sys2Proof.Machine
end

