-- ==== Sys2Proof/Certificates/Slice0/Obligations.lean ====
section
/-! DEFINITION. The statements for the provers. Register codes of C, D, E, H, L (G1, log 12), the wrap of pc and addresses at 16
bits (D1, log 7), "CY only" for rotates (D6, log 10), AC of INR and DCR (D16, log 11), the reading of DAA (D5, log 9) and EI
deferral (D4, log 8) are the spec's own decisions: a statement that rests on one has basis 'derived'. -/

open Sys2Proof Sys2Proof.Machine

namespace Sys2Proof.Claims

/-! ## Vocabulary: arithmetic on natural numbers, and what an instruction leaves alone -/

/-- The number of 1 bits of a byte is even (00_scope.md R14). -/
def evenOnes (x : Byte) : Bool := decide ((List.range 8).countP (fun k => x.getLsbD k) % 2 = 0)

/-- Z, S, P of an 8-bit result with the given CY and AC (41_arith_logic_rotate.md R153). -/
def resultFlags (x : Byte) (cy ac : Bool) : Flags :=
  { zero := decide (x.toNat = 0), sign := decide (128 ≤ x.toNat), parity := evenOnes x, carry := cy, auxCarry := ac }

/-- The low and the high byte of a 16-bit value. -/
def low (w : Word) : Byte := BitVec.ofNat 8 (w.toNat % 256)
def high (w : Word) : Byte := BitVec.ofNat 8 (w.toNat / 256)

/-- `h * 256 + l` (00_scope.md R10). -/
def pairOf (h l : Byte) : Word := BitVec.ofNat 16 (h.toNat * 256 + l.toNat)

/-- The 8-bit operand `dst` holds `v` in `t`; every other general register is as in `s`, and every byte of memory but, for
M, the one at HL of `s`. -/
def WritesOperand (dst : Reg8) (v : Byte) (s t : State) : Prop :=
  t.readReg dst = v ∧ (∀ x, x ≠ dst → x ≠ .m → t.readReg x = s.readReg x) ∧
  ∀ a, ¬(dst = .m ∧ a = s.hl) → t.readByte a = s.readByte a

/-- The pair `p` holds `v` in `t`, the other pairs and A as in `s`, memory unchanged. -/
def WritesPair (p : RegPair) (v : Word) (s t : State) : Prop :=
  t.readPair p = v ∧ (∀ q, q ≠ p → t.readPair q = s.readPair q) ∧ t.regs.a = s.regs.a ∧
  ∀ a, t.readByte a = s.readByte a

/-- The two bytes at `a` and the next address hold `v`, low byte first; every other byte of memory is as in `s`
(20_memory.md R63). -/
def StoresWord (a v : Word) (s t : State) : Prop :=
  t.readByte a = low v ∧ t.readByte (a + 1#16) = high v ∧ ∀ b, b ≠ a → b ≠ a + 1#16 → t.readByte b = s.readByte b

/-- Every byte of memory reads as before. -/
def SameMemory (s t : State) : Prop := ∀ a, t.readByte a = s.readByte a

/-- The 16-bit value at `a`, low byte first. -/
def wordAt (s : State) (a : Word) : Word := pairOf (s.readByte (a + 1#16)) (s.readByte a)

/-- The flag a condition tests, and the value it wants (42_branch.md R210). -/
def condFlag (k : Cond) (f : Flags) : Bool :=
  match k with
  | .nz | .z => f.zero
  | .nc | .c => f.carry
  | .po | .pe => f.parity
  | .p | .m => f.sign
def condWanted (k : Cond) : Bool :=
  match k with
  | .z | .c | .pe | .m => true
  | .nz | .nc | .po | .p => false

/-- The condition holds (R210). -/
def taken (k : Cond) (s : State) : Bool := condFlag k s.flags == condWanted k

/-- Operand codes as numbers (30_encoding.md R94, R101). -/
def regCode : Reg8 → Nat
  | .b => 0 | .c => 1 | .d => 2 | .e => 3 | .h => 4 | .l => 5 | .m => 6 | .a => 7
def pairCode : RegPair → Nat
  | .bc => 0 | .de => 1 | .hl => 2 | .sp => 3
def stackPairCode : StackPair → Nat
  | .bc => 0 | .de => 1 | .hl => 2 | .psw => 3
def condCode : Cond → Nat
  | .nz => 0 | .z => 1 | .nc => 2 | .c => 3 | .po => 4 | .pe => 5 | .p => 6 | .m => 7
def aluCode : AluOp → Nat
  | .add => 0 | .adc => 1 | .sub => 2 | .sbb => 3 | .ana => 4 | .xra => 5 | .ora => 6 | .cmp => 7

/-- One byte from its number. -/
def op (n : Nat) : Byte := BitVec.ofNat 8 n

/-- The byte of two decimal digits. -/
def bcd (n : Nat) : Byte := op (16 * (n / 10) + n % 10)

/-- `s` with A, the flags and pc as an ALU instruction of `n` bytes leaves them. -/
def aluResult (a : Byte) (f : Flags) (n : Nat) (s : State) : State :=
  { s with regs := { s.regs with a := a }, flags := f, pc := s.pc + BitVec.ofNat 16 n }

/-! ## Which instruction may write what -/

/-- JMP, Jcond, CALL, Ccond, RET, Rcond, RST, PCHL: the control transfers of 10_state.md R37. -/
def Transfers (i : Instr) : Prop :=
  (∃ w, i = .jmp w ∨ i = .call w) ∨ (∃ k w, i = .jcondOf k w ∨ i = .ccondOf k w) ∨ i = .ret ∨ (∃ k, i = .rcondOf k) ∨
  (∃ x y z, i = .rstOfBits x y z) ∨ i = .pchl

/-- The instructions of 40_data_transfer.md (R130-R142). -/
def DataTransfers (i : Instr) : Prop :=
  (∃ dst r, ¬(dst = .m ∧ r = .m) ∧ i = .movOf dst r) ∨ (∃ dst v, i = .mviOf dst v) ∨ (∃ p w, i = .lxiOf p w) ∨
  (∃ w, i = .lda w ∨ i = .sta w ∨ i = .lhld w ∨ i = .shld w) ∨ i = .ldaxBC ∨ i = .ldaxDE ∨ i = .staxBC ∨ i = .staxDE ∨
  i = .xchg

/-- The writers of Z, S, P and AC (10_state.md R39, R40, R41, R43). -/
def WritesZSPAC (i : Instr) : Prop :=
  (∃ k r, i = .aluOf k r) ∨ (∃ k v, i = .aluImmOf k v) ∨ (∃ r, i = .inrOf r ∨ i = .dcrOf r) ∨ i = .daa ∨ i = .popPSW

/-- The writers of CY (10_state.md R42). -/
def WritesCY (i : Instr) : Prop :=
  (∃ k r, i = .aluOf k r) ∨ (∃ k v, i = .aluImmOf k v) ∨ (∃ p, i = .dadOf p) ∨ i = .daa ∨ i = .rlc ∨ i = .rrc ∨ i = .ral ∨
  i = .rar ∨ i = .stc ∨ i = .cmc ∨ i = .popPSW

/-- The writers of SP: LXI SP, INX SP, DCX SP, SPHL, PUSH, POP, CALL, taken Ccond, RET, taken Rcond, RST (10_state.md
R38). -/
def WritesSP (i : Instr) (s : State) : Prop :=
  (∃ w, i = .lxiSP w ∨ i = .call w) ∨ i = .inxSP ∨ i = .dcxSP ∨ i = .sphl ∨ (∃ p, i = .pushOf p ∨ i = .popOf p) ∨ i = .ret ∨
  (∃ k w, i = .ccondOf k w ∧ taken k s = true) ∨ (∃ k, i = .rcondOf k ∧ taken k s = true) ∨ ∃ x y z, i = .rstOfBits x y z

/-- The addresses an instruction stores to, each computed as the instruction computes it: M at HL, the direct address, the
pair of STAX, the two bytes below SP of a push, the two bytes at SP of XTHL (20_memory.md R67). -/
def storedAddresses (i : Instr) (s : State) : List Word :=
  let pushed := [s.sp - 2#16, s.sp - 2#16 + 1#16]
  match i with
  | .movMB | .movMC | .movMD | .movME | .movMH | .movML | .movMA | .mviM _ | .inrM | .dcrM => [s.hl]
  | .sta w => [w]
  | .shld w => [w, w + 1#16]
  | .staxBC => [s.readPair .bc]
  | .staxDE => [s.readPair .de]
  | .pushBC | .pushDE | .pushHL | .pushPSW | .call _ => pushed
  | .rst0 | .rst1 | .rst2 | .rst3 | .rst4 | .rst5 | .rst6 | .rst7 => pushed
  | .cnz _ => if taken .nz s then pushed else []
  | .cz _ => if taken .z s then pushed else []
  | .cnc _ => if taken .nc s then pushed else []
  | .cc _ => if taken .c s then pushed else []
  | .cpo _ => if taken .po s then pushed else []
  | .cpe _ => if taken .pe s then pushed else []
  | .cp _ => if taken .p s then pushed else []
  | .cm _ => if taken .m s then pushed else []
  | .xthl => [s.sp, s.sp + 1#16]
  | _ => []

/-- The general registers an instruction may write: its destination operand, A for the accumulator instructions, the two
halves of its pair (10_state.md R31, R35). -/
def MayWriteReg (i : Instr) (x : Reg8) : Prop :=
  (∃ r, i = .movOf x r) ∨ (∃ v, i = .mviOf x v) ∨ i = .inrOf x ∨ i = .dcrOf x ∨
  (x = .a ∧ ((∃ k r, k ≠ .cmp ∧ i = .aluOf k r) ∨ (∃ k v, k ≠ .cmp ∧ i = .aluImmOf k v) ∨ (∃ w, i = .lda w) ∨ i = .ldaxBC ∨
    i = .ldaxDE ∨ i = .daa ∨ i = .rlc ∨ i = .rrc ∨ i = .ral ∨ i = .rar ∨ i = .cma ∨ i = .popPSW ∨ ∃ v, i = .inPort v)) ∨
  ((x = .b ∨ x = .c) ∧ ((∃ w, i = .lxiBC w) ∨ i = .inxBC ∨ i = .dcxBC ∨ i = .popBC)) ∨
  ((x = .d ∨ x = .e) ∧ ((∃ w, i = .lxiDE w) ∨ i = .inxDE ∨ i = .dcxDE ∨ i = .popDE ∨ i = .xchg)) ∨
  ((x = .h ∨ x = .l) ∧ ((∃ w, i = .lxiHL w ∨ i = .lhld w) ∨ i = .inxHL ∨ i = .dcxHL ∨ i = .popHL ∨ i = .xchg ∨ i = .xthl ∨
    ∃ p, i = .dadOf p))

/-- `s` with another value in the shift register. -/
def withShift (x : Word) (s : State) : State := { s with io := { s.io with shiftRegister := x } }

/-- `s` with other values in the three input latches. -/
def withInputs (x y z : Byte) (s : State) : State :=
  { s with io := { s.io with inputPort0 := x, inputPort1 := y, inputPort2 := z } }

/-- The move is a CPU step that executes the opcode byte at pc, and `P` holds of that byte (30_encoding.md R99). -/
def RunsOpcode (e : Event) (s : State) (P : Byte → Prop) : Prop :=
  e = .cpu ∧ s.fault = none ∧ s.halted = false ∧ P (s.readByte s.pc)

/-- The move is a request for an interrupt 0..7 that the CPU accepts (60_exceptions.md R290, R291). -/
def AcceptsInterrupt (e : Event) (s : State) : Prop :=
  s.fault = none ∧ s.interruptsEnabled = true ∧ ∃ n, n ≤ 7 ∧ e = .host (.raiseInterrupt n)

end Sys2Proof.Claims

open Sys2Proof.Claims

/-! ## Encoding and decoding -/

/-- 30_encoding.md R90, R92, R93, R100: the decoder inverts the encoder on every instruction and every following bytes, and
gives an instruction on nothing but its encoding. -/
def Obligations.DecodeAndEncodeAreInverse : Prop :=
  ∀ (bytes rest : List Byte) (i : Instr), decode bytes = .ok (i, rest) ↔ bytes = encode i ++ rest

/-- 30_encoding.md R100 and R97: every opcode byte is the first byte of exactly one row, up to the operand; the rows without a
handler are those of the 12 bytes. -/
def Obligations.EveryOpcodeByteIsExactlyOneRow : Prop :=
  (∀ (b x : Byte) (w : Word), (encode (decodeOpcode b x w)).head? = some b ∧
    ((decodeOpcode b x w).implemented = false ↔
      b ∈ [0x08#8, 0x10#8, 0x18#8, 0x20#8, 0x28#8, 0x30#8, 0x38#8, 0xCB#8, 0xD9#8, 0xDD#8, 0xED#8, 0xFD#8])) ∧
  ∀ (i : Instr) (b : Byte), (encode i).head? = some b → ∃ x w, i = decodeOpcode b x w

/-- 30_encoding.md R90: which instructions have 3, 2 and 1 bytes, and that the opcode byte alone fixes it. -/
def Obligations.LengthIsAFunctionOfTheOpcodeByte : Prop :=
  (∀ i : Instr, i.length = 3 ↔
    (∃ p w, i = .lxiOf p w) ∨ (∃ w, i = .shld w ∨ i = .lhld w ∨ i = .sta w ∨ i = .lda w ∨ i = .jmp w ∨ i = .call w) ∨
    ∃ k w, i = .jcondOf k w ∨ i = .ccondOf k w) ∧
  (∀ i : Instr, i.length = 2 ↔
    (∃ r v, i = .mviOf r v) ∨ (∃ k v, i = .aluImmOf k v) ∨ ∃ v, i = .inPort v ∨ i = .outPort v) ∧
  (∀ i : Instr, i.length = 1 ∨ i.length = 2 ∨ i.length = 3) ∧
  ∀ i j : Instr, (encode i).head? = (encode j).head? → i.length = j.length

/-- 30_encoding.md R91, R92, R94, R101; 40_data_transfer.md R140, R141: the bit fields of every family with an operand code, LDAX and STAX
with their pair code in bit 4 among them (the slot of MOV M,M is HLT). Codes of C, D, E, H, L are the spec's general knowledge
(G1, log 12). -/
def Obligations.OpcodeBitFieldsOfEveryFamily : Prop :=
  (∀ dst r, encode (.movOf dst r) = [op (0x40 + 8 * regCode dst + regCode r)]) ∧
  (∀ k r, encode (.aluOf k r) = [op (0x80 + 8 * aluCode k + regCode r)]) ∧
  (∀ k v, encode (.aluImmOf k v) = [op (0xC6 + 8 * aluCode k), v]) ∧
  (∀ r v, encode (.mviOf r v) = [op (0x06 + 8 * regCode r), v]) ∧
  (∀ r, encode (.inrOf r) = [op (0x04 + 8 * regCode r)] ∧ encode (.dcrOf r) = [op (0x05 + 8 * regCode r)]) ∧
  (∀ p w, encode (.lxiOf p w) = [op (0x01 + 16 * pairCode p), low w, high w]) ∧
  (∀ p, encode (.inxOf p) = [op (0x03 + 16 * pairCode p)] ∧ encode (.dcxOf p) = [op (0x0B + 16 * pairCode p)] ∧
    encode (.dadOf p) = [op (0x09 + 16 * pairCode p)]) ∧
  (encode .ldaxBC = [op (0x0A + 16 * pairCode .bc)] ∧ encode .ldaxDE = [op (0x0A + 16 * pairCode .de)] ∧
    encode .staxBC = [op (0x02 + 16 * pairCode .bc)] ∧ encode .staxDE = [op (0x02 + 16 * pairCode .de)]) ∧
  (∀ p, encode (.pushOf p) = [op (0xC5 + 16 * stackPairCode p)] ∧ encode (.popOf p) = [op (0xC1 + 16 * stackPairCode p)]) ∧
  (∀ k w, encode (.jcondOf k w) = [op (0xC2 + 8 * condCode k), low w, high w] ∧
    encode (.ccondOf k w) = [op (0xC4 + 8 * condCode k), low w, high w] ∧ encode (.rcondOf k) = [op (0xC0 + 8 * condCode k)]) ∧
  ∀ x y z : Bool, encode (.rstOfBits x y z) = [op (0xC7 + 8 * (4 * x.toNat + 2 * y.toNat + z.toNat))]

/-- Words that 95_test_vectors.md writes out, decoded: X1-X6, T1 (0x78), X8 (0xF5) and F1 (0x08). The constructor of 0x08 is the model's
own form of a byte without a handler (log 18), and the two refusals of too few bytes are the model's own choice (log 21). -/
def Obligations.SpecExampleWordsDecode : Prop :=
  decode [0x3E#8, 0x42#8, 0x00#8] = .ok (.mviA 0x42#8, [0x00#8]) ∧ decode [0x80#8] = .ok (.addB, []) ∧
  decode [0x90#8] = .ok (.subB, []) ∧ decode [0xAF#8] = .ok (.xraA, []) ∧ decode [0x78#8] = .ok (.movAB, []) ∧
  decode [0x76#8] = .ok (.hlt, []) ∧ decode [0xC2#8, 0x00#8, 0x10#8] = .ok (.jnz 0x1000#16, []) ∧
  decode [0xCD#8, 0x06#8, 0x00#8] = .ok (.call 0x0006#16, []) ∧ decode [0xC9#8] = .ok (.ret, []) ∧
  decode [0xD3#8, 0x04#8] = .ok (.outPort 0x04#8, []) ∧ decode [0xDB#8, 0x03#8] = .ok (.inPort 0x03#8, []) ∧
  decode [0xF5#8] = .ok (.pushPSW, []) ∧ decode [0x08#8] = .ok (.unimplemented08, []) ∧
  decode [0xC3#8, 0x00#8] = .error (.truncated 0xC3#8 2) ∧ decode [] = .error .noOpcode

/-- Where `withFetchWord` puts a table word, the very next step runs the instruction the decoder reads from it
(30_encoding.md R99; log 16). -/
def Obligations.PlacedTableWordRunsNext : Prop :=
  ∀ (s : State) (nbits w : Nat) (i : Instr), decodeTableWord nbits w = some i →
    step (s.withFetchWord nbits w) = finishStep (op (w % 2 ^ nbits % 256)) (exec i (s.withFetchWord nbits w))

/-! ## The step -/

/-- 30_encoding.md R99: a faulted state has no step; a halted step changes nothing (D8); otherwise, where the bytes at pc decode to
`i`, the step is `exec i`, and after an instruction other than EI a pending EI takes effect under EI_DEFERRED (D4). -/
def Obligations.StepRunsTheDecodedInstruction : Prop :=
  ∀ s : State,
    (∀ r, s.fault = some r → step s = .fault (.unimplementedOpcode r.op r.addr)) ∧
    (s.fault = none → s.halted = true → step s = .next s) ∧
    (s.fault = none → s.halted = false → ∀ i rest,
      decode [s.readByte s.pc, s.readByte (s.pc + 1#16), s.readByte (s.pc + 2#16)] = .ok (i, rest) →
      ∃ t, exec i s = .next t ∧
        (t.fault = none ∧ t.params.eiDeferred = true ∧ s.readByte s.pc ≠ 0xFB#8 ∧ t.eiPending = true →
          step s = .next { t with interruptsEnabled := true, eiPending := false }) ∧
        (¬(t.fault = none ∧ t.params.eiDeferred = true ∧ s.readByte s.pc ≠ 0xFB#8 ∧ t.eiPending = true) →
          step s = .next t))

/-- 60_exceptions.md R280 and D10 (log 5): at one of the 12 bytes the step records the opcode byte and its address and writes
nothing else; so does each of the 12 constructors. -/
def Obligations.UnimplementedOpcodeRecordsItsReport : Prop :=
  (∀ s : State, s.fault = none → s.halted = false → unimplementedOpcodes.contains (s.readByte s.pc) = true →
    step s = .next { s with fault := some { op := s.readByte s.pc, addr := s.pc } }) ∧
  ∀ (i : Instr) (s : State), i.implemented = false →
    ∃ b, encode i = [b] ∧ exec i s = .next { s with fault := some { op := b, addr := s.pc } }

/-- 60_exceptions.md R283, R280: no other synchronous exception. From any state without a recorded fault the step answers a next state,
and records a fault only at one of the 12 opcode bytes: arithmetic, memory, stack, ports and branches never fault. That the step at
one of the 12 bytes answers a next state too, with the record in it, is the model's reading of D10 (log 5). -/
def Obligations.NoOtherSynchronousException : Prop :=
  ∀ s : State, s.fault = none → ∃ t, step s = .next t ∧
    (t.fault ≠ none → s.halted = false ∧ unimplementedOpcodes.contains (s.readByte s.pc) = true)

/-- 10_state.md R49, 60_exceptions.md R290 (D10; log 15): once a fault is recorded no schedule of moves changes the state. -/
def Obligations.FaultedStateNeverChanges : Prop :=
  ∀ (s t : State) (es : List Event), s.fault ≠ none →
    (∀ n, n ≤ 7 → hostStep (.raiseInterrupt n) s = .next s) ∧ (runEvents es s = .next t → t = s)

/-- 60_exceptions.md R308 (2) (D18): halted with IE false, no schedule changes anything but the input latches. -/
def Obligations.SuccessfulEndIsFinal : Prop :=
  ∀ (s t : State) (es : List Event), s.SuccessfulEnd → runEvents es s = .next t →
    t.SuccessfulEnd ∧ t = withInputs t.io.inputPort0 t.io.inputPort1 t.io.inputPort2 s

/-! ## Interrupts and the host -/

/-- 60_exceptions.md R291 (ei_pending by D4, n by D7): an accepted request pushes pc, goes to 8*n, clears IE, halted and
ei_pending, and changes nothing else. -/
def Obligations.InterruptEntryPushesPcAndVectors : Prop :=
  ∀ (s : State) (n : Nat), n ≤ 7 → s.fault = none → s.interruptsEnabled = true →
    ∃ t, hostStep (.raiseInterrupt n) s = .next t ∧ StoresWord (s.sp - 2#16) s.pc s t ∧
      t = { s with mem := t.mem, sp := s.sp - 2#16, pc := BitVec.ofNat 16 (8 * n), interruptsEnabled := false,
                   halted := false, eiPending := false }

/-- 60_exceptions.md R292: with IE false the call changes no state at all. -/
def Obligations.RequestWithInterruptsDisabledIsDropped : Prop :=
  ∀ (s : State) (n : Nat), n ≤ 7 → s.interruptsEnabled = false → hostStep (.raiseInterrupt n) s = .next s

/-- 60_exceptions.md R290, R306 (D7): a request outside 0..7 and a write to a latch outside 0..2 are no moves; a latch write
changes that latch and nothing else; a read changes nothing. -/
def Obligations.HostActionsTouchOnlyTheirLatch : Prop :=
  (∀ (s : State) (n : Nat), 7 < n → hostStep (.raiseInterrupt n) s = .refused (.interruptNumber n)) ∧
  (∀ (s : State) (k : Nat) (v : Byte), 2 < k → hostStep (.writeInput k v) s = .refused (.inputIndex k)) ∧
  (∀ (s : State) (a : Word), hostStep (.readMemory a) s = .next s) ∧
  ∀ (s : State) (v : Byte), s.fault = none →
    hostStep (.writeInput 0 v) s = .next (withInputs v s.io.inputPort1 s.io.inputPort2 s) ∧
    hostStep (.writeInput 1 v) s = .next (withInputs s.io.inputPort0 v s.io.inputPort2 s) ∧
    hostStep (.writeInput 2 v) s = .next (withInputs s.io.inputPort0 s.io.inputPort1 v s)

/-- 60_exceptions.md R300, R291: RET in the handler, wherever the handler has gone in between without moving SP or the two saved
bytes, resumes at the interrupted pc with SP as before; it restores neither IE nor the flags. -/
def Obligations.RetResumesAfterInterruptEntry : Prop :=
  ∀ (s t u : State) (n : Nat), n ≤ 7 → s.fault = none → s.interruptsEnabled = true →
    hostStep (.raiseInterrupt n) s = .next t → u.sp = t.sp → u.readByte u.sp = t.readByte u.sp →
    u.readByte (u.sp + 1#16) = t.readByte (u.sp + 1#16) →
    t.interruptsEnabled = false ∧ exec .ret u = .next { u with pc := s.pc, sp := s.sp }

/-- 43_stack_io_machine.md R243, R240, R241 (D4): under EI_DEFERRED, EI leaves IE and makes an EI pending; the next implemented
instruction other than EI runs, and then IE is true (false after DI) and nothing is pending. -/
def Obligations.DeferredEiTakesEffectAfterTheNextInstruction : Prop :=
  ∀ s : State, s.fault = none → s.halted = false → s.params.eiDeferred = true →
    (s.readByte s.pc = 0xFB#8 → step s = .next { s with eiPending := true, pc := s.pc + 1#16 }) ∧
    (s.eiPending = true → s.readByte s.pc ≠ 0xFB#8 → unimplementedOpcodes.contains (s.readByte s.pc) = false →
      ∃ t, step s = .next t ∧ t.eiPending = false ∧
        (s.readByte s.pc ≠ 0xF3#8 → t.interruptsEnabled = true) ∧
        (s.readByte s.pc = 0xF3#8 → t.interruptsEnabled = false))

/-! ## Invariants, reset and launch -/

/-- The invariant of Safety.lean (20_memory.md R60, 10_state.md R48, 60_exceptions.md R280) is kept by every step. -/
def Obligations.StepKeepsTheInvariant : Prop :=
  ∀ s t : State, s.Inv → step s = .next t → t.Inv

/-- The invariant is kept by every schedule of CPU steps and host actions (60_exceptions.md R305). -/
def Obligations.EveryScheduleKeepsTheInvariant : Prop :=
  ∀ (es : List Event) (s t : State), s.Inv → runEvents es s = .next t → t.Inv

/-- 10_state.md R56, 70_reset_and_hazards.md R331, R332, R334, R335: every value at reset with no image. ei_pending and fault are fields
the spec adds by its own decisions D4 (R48; log 8) and D10 (R49; log 5). -/
def Obligations.ResetGivesTheListedValues : Prop :=
  (∀ r : Reg8, State.reset.readReg r = 0x00#8) ∧ State.reset.pc = 0x0000#16 ∧ State.reset.sp = 0xF000#16 ∧
  State.reset.flags = { zero := false, sign := false, parity := false, carry := false, auxCarry := false } ∧
  State.reset.interruptsEnabled = false ∧ State.reset.halted = false ∧ State.reset.eiPending = false ∧
  State.reset.fault = none ∧ (∀ a, State.reset.readByte a = 0x00#8) ∧
  State.reset.io = { inputPort0 := 0x00#8, inputPort1 := 0x00#8, inputPort2 := 0x00#8, shiftRegister := 0x0000#16,
                     shiftOffset := 0#3 }

/-- The invariant of Safety.lean holds at reset, in every setting of the parameters (20_memory.md R60, 10_state.md R48, R49). -/
def Obligations.ResetMeetsTheInvariant : Prop := ∀ p : Params, ({ State.reset with params := p } : State).Inv

/-- 70_reset_and_hazards.md R330, R332, R333 (D11): an image of at most 65536 bytes is placed from address 0, the rest reads 0x00,
every other field is as after reset, and the invariant holds; a longer image is refused. -/
def Obligations.LaunchPlacesTheImage : Prop :=
  ∀ (params : Params) (image : List Byte),
    (image.length ≤ 65536 → ∃ s, launch params image = .next s ∧
      (∀ a : Word, s.readByte a = image.getD a.toNat 0x00#8) ∧
      s = { State.reset with mem := s.mem, params := params } ∧ s.Inv) ∧
    (65536 < image.length → launch params image = .refused (.romImageTooLong image.length))

/-- Two memories in canonical form that read the same everywhere are the same data (log 6). -/
def Obligations.CanonicalMemoriesThatReadAlikeAreEqual : Prop :=
  ∀ m k : Memory, Memory.wf m → Memory.wf k → (∀ a, a < 65536 → Memory.read m a = Memory.read k a) → m = k

/-! ## Rules of the whole machine -/

/-- 10_state.md R37 (wrap by D1): pc advances by the instruction's length unless the instruction transfers control. -/
def Obligations.PcAdvancesByLengthUnlessTransfer : Prop :=
  ∀ (i : Instr) (s t : State), exec i s = .next t → i.implemented = true → ¬ Transfers i →
    t.pc = s.pc + BitVec.ofNat 16 i.length

/-- 40_data_transfer.md R143: no data-transfer instruction writes a flag, IE, halted, a latch or the shift hardware. -/
def Obligations.DataTransfersWriteNoFlagAndNoDevice : Prop :=
  ∀ (i : Instr) (s t : State), DataTransfers i → exec i s = .next t →
    t.flags = s.flags ∧ t.interruptsEnabled = s.interruptsEnabled ∧ t.halted = s.halted ∧ t.io = s.io

/-- 10_state.md R39-R43 ("CY only" by D6): only the listed instructions write Z, S, P, AC, and only the listed ones CY. -/
def Obligations.OnlyListedInstructionsWriteFlags : Prop :=
  ∀ (i : Instr) (s t : State), exec i s = .next t →
    (¬ WritesZSPAC i → t.flags = { s.flags with carry := t.flags.carry }) ∧
    (¬ WritesCY i → t.flags.carry = s.flags.carry)

/-- 20_memory.md R60, R67: every byte of memory outside the addresses the instruction stores to reads as before. -/
def Obligations.EveryByteOutsideTheStoredOnesIsUnchanged : Prop :=
  ∀ (i : Instr) (s t : State) (a : Word), exec i s = .next t → a ∉ storedAddresses i s → t.readByte a = s.readByte a

/-- 10_state.md R31, R35: a general register changes only where the instruction has it as a destination. -/
def Obligations.OnlyDestinationRegistersChange : Prop :=
  ∀ (i : Instr) (s t : State) (x : Reg8), exec i s = .next t → x ≠ .m → ¬ MayWriteReg i x → t.readReg x = s.readReg x

/-- 10_state.md R38: SP is written by the listed instructions only. -/
def Obligations.OnlyListedInstructionsWriteSp : Prop :=
  ∀ (i : Instr) (s t : State), exec i s = .next t → ¬ WritesSP i s → t.sp = s.sp

/-- 10_state.md R46-R49, R52-R54, of the instructions alone (`exec`): among them only EI and DI change IE and ei_pending (D4, log 8), only
HLT halted, only an unimplemented opcode the fault (D10, log 5), none the input latches or the parameters, only OUT 4 the shift
register, only OUT 2 the shift offset, only IN from a port above 3 the model's counter of free values (log 2). The moves that are
no instruction are in `ControlAndDeviceStateChangesOnlyByItsMoves`. -/
def Obligations.ControlAndDeviceStateHasNoOtherInstructionWriter : Prop :=
  ∀ (i : Instr) (s t : State), exec i s = .next t →
    (i ≠ .ei → i ≠ .di → t.interruptsEnabled = s.interruptsEnabled ∧ t.eiPending = s.eiPending) ∧
    (i ≠ .hlt → t.halted = s.halted) ∧ (i.implemented = true → t.fault = s.fault) ∧
    t.io.inputPort0 = s.io.inputPort0 ∧ t.io.inputPort1 = s.io.inputPort1 ∧ t.io.inputPort2 = s.io.inputPort2 ∧
    (i ≠ .outPort 4#8 → t.io.shiftRegister = s.io.shiftRegister) ∧
    (i ≠ .outPort 2#8 → t.io.shiftOffset = s.io.shiftOffset) ∧
    t.params = s.params ∧ ((∀ p : Byte, 4 ≤ p.toNat → i ≠ .inPort p) → t.draws = s.draws)

/-- 10_state.md R52, R53: an instruction other than IN 3 and OUT 4 runs the same whatever the shift register holds, and one other than
IN 0, IN 1, IN 2 the same whatever the input latches hold. -/
def Obligations.DevicesAreSeenOnlyThroughTheirPorts : Prop :=
  ∀ (i : Instr) (s : State), ∃ t, exec i s = .next t ∧
    (∀ x, i ≠ .inPort 3#8 → i ≠ .outPort 4#8 → exec i (withShift x s) = .next (withShift x t)) ∧
    (∀ x y z, i ≠ .inPort 0#8 → i ≠ .inPort 1#8 → i ≠ .inPort 2#8 →
      exec i (withInputs x y z s) = .next (withInputs x y z t))

/-! ## Data transfer -/

/-- 40_data_transfer.md R130-R134 (codes by G1): MOV copies its source, read before anything is written, and MVI its immediate, into the
destination operand; nothing else changes but pc. All 63 MOV and 8 MVI. -/
def Obligations.MovAndMviWriteTheirOperand : Prop :=
  (∀ (dst r : Reg8) (s : State), ¬(dst = .m ∧ r = .m) → ∃ t, exec (.movOf dst r) s = .next t ∧
    WritesOperand dst (s.readReg r) s t ∧ t = { s with regs := t.regs, mem := t.mem, pc := s.pc + 1#16 }) ∧
  ∀ (dst : Reg8) (v : Byte) (s : State), ∃ t, exec (.mviOf dst v) s = .next t ∧
    WritesOperand dst v s t ∧ t = { s with regs := t.regs, mem := t.mem, pc := s.pc + 2#16 }

/-- 40_data_transfer.md R135; 41_arith_logic_rotate.md R171, R172: LXI, INX and DCX write their pair and no flag. -/
def Obligations.PairLoadsAndStepsWriteTheirPair : Prop :=
  ∀ (p : RegPair) (w : Word) (s : State),
    (∃ t, exec (.lxiOf p w) s = .next t ∧ WritesPair p w s t ∧
      t = { s with regs := t.regs, sp := t.sp, pc := s.pc + 3#16 }) ∧
    (∃ t, exec (.inxOf p) s = .next t ∧ WritesPair p (BitVec.ofNat 16 ((s.readPair p).toNat + 1)) s t ∧
      t = { s with regs := t.regs, sp := t.sp, pc := s.pc + 1#16 }) ∧
    (∃ t, exec (.dcxOf p) s = .next t ∧ WritesPair p (BitVec.ofNat 16 ((s.readPair p).toNat + 65535)) s t ∧
      t = { s with regs := t.regs, sp := t.sp, pc := s.pc + 1#16 }) ∧
    encode (.lxiOf p w) = [op (0x01 + 16 * pairCode p), low w, high w] ∧
    encode (.inxOf p) = [op (0x03 + 16 * pairCode p)] ∧ encode (.dcxOf p) = [op (0x0B + 16 * pairCode p)]

/-- 40_data_transfer.md R136, R140, R138: LDA and LDAX load A; LHLD loads L from the address and H from the next (wrapping, D1). -/
def Obligations.DirectAndIndirectLoads : Prop :=
  ∀ (w : Word) (s : State),
    exec (.lda w) s = .next { s with regs := { s.regs with a := s.readByte w }, pc := s.pc + 3#16 } ∧
    exec .ldaxBC s = .next { s with regs := { s.regs with a := s.readByte (pairOf s.regs.b s.regs.c) }, pc := s.pc + 1#16 } ∧
    exec .ldaxDE s = .next { s with regs := { s.regs with a := s.readByte (pairOf s.regs.d s.regs.e) }, pc := s.pc + 1#16 } ∧
    exec (.lhld w) s = .next { s with regs := { s.regs with l := s.readByte w, h := s.readByte (w + 1#16) },
                                      pc := s.pc + 3#16 }

/-- 40_data_transfer.md R137, R141, R139: STA and STAX store A at their address, SHLD L and H at its address and the next (wrapping, D1);
every other byte of memory reads as before and only pc changes beside. -/
def Obligations.DirectAndIndirectStores : Prop :=
  ∀ (w : Word) (s : State),
    (∃ t, exec (.sta w) s = .next t ∧ t.readByte w = s.regs.a ∧ (∀ a, a ≠ w → t.readByte a = s.readByte a) ∧
      t = { s with mem := t.mem, pc := s.pc + 3#16 }) ∧
    (∃ t, exec .staxBC s = .next t ∧ t.readByte (pairOf s.regs.b s.regs.c) = s.regs.a ∧
      (∀ a, a ≠ pairOf s.regs.b s.regs.c → t.readByte a = s.readByte a) ∧ t = { s with mem := t.mem, pc := s.pc + 1#16 }) ∧
    (∃ t, exec .staxDE s = .next t ∧ t.readByte (pairOf s.regs.d s.regs.e) = s.regs.a ∧
      (∀ a, a ≠ pairOf s.regs.d s.regs.e → t.readByte a = s.readByte a) ∧ t = { s with mem := t.mem, pc := s.pc + 1#16 }) ∧
    ∃ t, exec (.shld w) s = .next t ∧ StoresWord w (pairOf s.regs.h s.regs.l) s t ∧
      t = { s with mem := t.mem, pc := s.pc + 3#16 }

/-- 40_data_transfer.md R142: XCHG exchanges HL and DE and nothing else; XCHG; XCHG is the identity on them. -/
def Obligations.XchgExchangesHlAndDe : Prop :=
  ∀ s : State, encode .xchg = [0xEB#8] ∧ ∃ t, exec .xchg s = .next t ∧
    t = { s with regs := { s.regs with h := s.regs.d, l := s.regs.e, d := s.regs.h, e := s.regs.l }, pc := s.pc + 1#16 } ∧
    ∃ u, exec .xchg t = .next u ∧ u.regs = s.regs

/-! ## Arithmetic, logic, rotate -/

/-- 41_arith_logic_rotate.md R150, on ADD, ADC (16 register and M forms), ADI and ACI: A is the sum modulo 256, CY the carry out of bit
7, AC the carry out of bit 3, Z, S, P of the result; nothing else changes but pc. -/
def Obligations.AddAndAdcGiveSumAndFiveFlags : Prop :=
  ∀ (v : Byte) (s : State) (k : AluOp) (c : Bool), (k = .add ∧ c = false) ∨ (k = .adc ∧ c = s.flags.carry) →
    let sum := s.regs.a.toNat + v.toNat + c.toNat
    let res : Byte := BitVec.ofNat 8 sum
    let f := resultFlags res (decide (255 < sum)) (decide (15 < s.regs.a.toNat % 16 + v.toNat % 16 + c.toNat))
    (∀ r, s.readReg r = v → exec (.aluOf k r) s = .next (aluResult res f 1 s)) ∧
    exec (.aluImmOf k v) s = .next (aluResult res f 2 s)

/-- 41_arith_logic_rotate.md R151, on SUB, SBB, CMP (24 register and M forms), SUI, SBI and CPI: the difference modulo 256, CY the borrow
(A below operand plus borrow-in), AC the carry out of bit 3 of A + ~operand + (1 - borrow-in); CMP and CPI leave A. -/
def Obligations.SubSbbAndCmpGiveDifferenceAndBorrow : Prop :=
  ∀ (v : Byte) (s : State) (k : AluOp) (c : Bool),
    (k = .sub ∧ c = false) ∨ (k = .sbb ∧ c = s.flags.carry) ∨ (k = .cmp ∧ c = false) →
    let res : Byte := BitVec.ofInt 8 ((s.regs.a.toNat : Int) - v.toNat - c.toNat)
    let f := resultFlags res (decide (s.regs.a.toNat < v.toNat + c.toNat))
      (decide (15 < s.regs.a.toNat % 16 + (15 - v.toNat % 16) + (1 - c.toNat)))
    let a := if k = .cmp then s.regs.a else res
    (∀ r, s.readReg r = v → exec (.aluOf k r) s = .next (aluResult a f 1 s)) ∧
    exec (.aluImmOf k v) s = .next (aluResult a f 2 s)

/-- 41_arith_logic_rotate.md R154, on ANA, XRA, ORA (24 register and M forms), ANI, XRI and ORI: each bit of the result, Z, S, P of it, CY
and AC cleared. -/
def Obligations.LogicalOperationsClearCarryAndAuxCarry : Prop :=
  ∀ (v : Byte) (s : State) (k : AluOp), k = .ana ∨ k = .xra ∨ k = .ora → ∃ res : Byte,
    (∀ j, j < 8 → res.getLsbD j =
      if k = .ana then (s.regs.a.getLsbD j && v.getLsbD j)
      else if k = .xra then (s.regs.a.getLsbD j ^^ v.getLsbD j) else (s.regs.a.getLsbD j || v.getLsbD j)) ∧
    (∀ r, s.readReg r = v → exec (.aluOf k r) s = .next (aluResult res (resultFlags res false false) 1 s)) ∧
    exec (.aluImmOf k v) s = .next (aluResult res (resultFlags res false false) 2 s)

/-- 41_arith_logic_rotate.md R167-R170 (AC by D16, log 11): INR and DCR, register and M, write the operand, Z, S, P and AC; CY is as before. -/
def Obligations.InrAndDcrLeaveCarry : Prop :=
  ∀ (r : Reg8) (s : State),
    (∃ t, exec (.inrOf r) s = .next t ∧ WritesOperand r (s.readReg r + 1#8) s t ∧
      t = { s with regs := t.regs, mem := t.mem, pc := s.pc + 1#16,
                   flags := resultFlags (s.readReg r + 1#8) s.flags.carry (decide ((s.readReg r).toNat % 16 = 15)) }) ∧
    ∃ t, exec (.dcrOf r) s = .next t ∧ WritesOperand r (s.readReg r - 1#8) s t ∧
      t = { s with regs := t.regs, mem := t.mem, pc := s.pc + 1#16,
                   flags := resultFlags (s.readReg r - 1#8) s.flags.carry (decide ((s.readReg r).toNat % 16 ≠ 0)) }

/-- 41_arith_logic_rotate.md R152, R173: DAD adds the pair to HL modulo 65536 and writes CY, the carry out of bit 15, and no other flag. -/
def Obligations.DadAddsToHlAndSetsOnlyCarry : Prop :=
  ∀ (p : RegPair) (s : State), encode (.dadOf p) = [op (0x09 + 16 * pairCode p)] ∧
    ∃ t, exec (.dadOf p) s = .next t ∧
      WritesPair .hl (BitVec.ofNat 16 ((s.readPair .hl).toNat + (s.readPair p).toNat)) s t ∧
      t = { s with regs := t.regs, pc := s.pc + 1#16,
                   flags := { s.flags with carry := decide (65535 < (s.readPair .hl).toNat + (s.readPair p).toNat) } }

/-- 41_arith_logic_rotate.md R174-R176 (reading of the source by D5, Intel variant by G3; log 9): DAA in both variants. -/
def Obligations.DaaAdjustsByItsVariant : Prop :=
  ∀ s : State,
    let a := s.regs.a.toNat
    let lowFix := decide (9 < a % 16) || s.flags.auxCarry
    (s.params.daaVariant = .docSequential →
      let a1 := if lowFix then (a + 6) % 256 else a
      let cy1 := if lowFix then decide (255 < a + 6) else s.flags.carry
      let highFix := decide (9 < a1 / 16) || cy1
      exec .daa s = .next
        (if highFix then aluResult (op (a1 + 0x60)) (resultFlags (op (a1 + 0x60)) (decide (255 < a1 + 0x60)) false) 1 s
         else if lowFix then aluResult (op a1) (resultFlags (op a1) cy1 (decide (15 < a % 16 + 6))) 1 s
         else { s with pc := s.pc + 1#16 })) ∧
    (s.params.daaVariant = .intel8080 →
      let highFix := decide (9 < a / 16) || s.flags.carry || (decide (9 ≤ a / 16) && decide (9 < a % 16))
      let low6 := if lowFix then 6 else 0
      let res := op (a + low6 + (if highFix then 0x60 else 0))
      exec .daa s = .next (aluResult res
        (resultFlags res (s.flags.carry || highFix) (decide (15 < a % 16 + low6))) 1 s))

/-- 41_arith_logic_rotate.md R174-R176 with R150 (D5, G3; log 9): ADI of two decimal digits and then DAA adds in decimal. The Intel
variant for every two bytes of digits, the document's own for every sum below 150, where its ADD leaves no carry to lose. -/
def Obligations.DaaMakesAdditionDecimal : Prop :=
  ∀ (x y : Nat) (s : State), x < 100 → y < 100 → s.regs.a = bcd x → s.params.daaVariant = .intel8080 ∨ x + y < 150 →
    ∃ t u, exec (.adi (bcd y)) s = .next t ∧ exec .daa t = .next u ∧ u.regs.a = bcd ((x + y) % 100) ∧
      u.flags.carry = decide (100 ≤ x + y)

/-- 41_arith_logic_rotate.md R189-R192 ("CY only" by D6, log 10): RLC and RRC rotate A by one place, RAL and RAR the nine bits CY and A; CY
is the bit rotated out, and no other flag is written. -/
def Obligations.RotatesMoveOneBitAndWriteOnlyCarry : Prop :=
  ∀ s : State,
    exec .rlc s = .next (aluResult (s.regs.a.rotateLeft 1) { s.flags with carry := s.regs.a.getLsbD 7 } 1 s) ∧
    exec .rrc s = .next (aluResult (s.regs.a.rotateRight 1) { s.flags with carry := s.regs.a.getLsbD 0 } 1 s) ∧
    (∃ x : Byte, exec .ral s = .next (aluResult x { s.flags with carry := s.regs.a.getLsbD 7 } 1 s) ∧
      BitVec.ofBool (s.regs.a.getLsbD 7) ++ x = (BitVec.ofBool s.flags.carry ++ s.regs.a).rotateLeft 1) ∧
    ∃ x : Byte, exec .rar s = .next (aluResult x { s.flags with carry := s.regs.a.getLsbD 0 } 1 s) ∧
      BitVec.ofBool (s.regs.a.getLsbD 0) ++ x = (BitVec.ofBool s.flags.carry ++ s.regs.a).rotateRight 1

/-- 41_arith_logic_rotate.md R193-R195 ("CY only" by D6, log 10): CMA is 255 - A and writes no flag, twice it is the identity on A; CMC and STC
write CY. -/
def Obligations.ComplementAndCarryControl : Prop :=
  ∀ s : State,
    (∃ t, exec .cma s = .next t ∧ t = aluResult (op (255 - s.regs.a.toNat)) s.flags 1 s ∧
      ∃ u, exec .cma t = .next u ∧ u.regs = s.regs ∧ u.flags = s.flags) ∧
    exec .cmc s = .next { s with flags := { s.flags with carry := !s.flags.carry }, pc := s.pc + 1#16 } ∧
    exec .stc s = .next { s with flags := { s.flags with carry := true }, pc := s.pc + 1#16 }

/-! ## Branch, call, return -/

/-- 42_branch.md R210-R212, R218: JMP and PCHL go to their target, Jcond where its condition holds, else past its three bytes; only pc
changes. -/
def Obligations.JumpsGoToTheirTarget : Prop :=
  ∀ (k : Cond) (w : Word) (s : State),
    encode (.jmp w) = [0xC3#8, low w, high w] ∧ exec (.jmp w) s = .next { s with pc := w } ∧
    encode .pchl = [0xE9#8] ∧ exec .pchl s = .next { s with pc := pairOf s.regs.h s.regs.l } ∧
    encode (.jcondOf k w) = [op (0xC2 + 8 * condCode k), low w, high w] ∧
    exec (.jcondOf k w) s = .next { s with pc := if taken k s then w else s.pc + 3#16 }

/-- 42_branch.md R213, R214, R217: CALL, a taken Ccond and RST push the address after the instruction and go to the target or to 8*n; a
Ccond not taken only passes its three bytes; IE is not changed. -/
def Obligations.CallsPushTheReturnAddress : Prop :=
  ∀ (w : Word) (s : State),
    (encode (.call w) = [0xCD#8, low w, high w] ∧ ∃ t, exec (.call w) s = .next t ∧
      StoresWord (s.sp - 2#16) (s.pc + 3#16) s t ∧ t = { s with mem := t.mem, sp := s.sp - 2#16, pc := w }) ∧
    (∀ k, encode (.ccondOf k w) = [op (0xC4 + 8 * condCode k), low w, high w] ∧
      (taken k s = true → ∃ t, exec (.ccondOf k w) s = .next t ∧ StoresWord (s.sp - 2#16) (s.pc + 3#16) s t ∧
        t = { s with mem := t.mem, sp := s.sp - 2#16, pc := w }) ∧
      (taken k s = false → exec (.ccondOf k w) s = .next { s with pc := s.pc + 3#16 })) ∧
    ∀ x y z : Bool, let n := 4 * x.toNat + 2 * y.toNat + z.toNat
      encode (.rstOfBits x y z) = [op (0xC7 + 8 * n)] ∧ ∃ t, exec (.rstOfBits x y z) s = .next t ∧
        StoresWord (s.sp - 2#16) (s.pc + 1#16) s t ∧ t = { s with mem := t.mem, sp := s.sp - 2#16, pc := BitVec.ofNat 16 (8 * n) }

/-- 42_branch.md R215, R216; 43_stack_io_machine.md R231: RET and a taken Rcond take pc from the two bytes at SP, low byte first, and add 2 to
SP; an Rcond not taken only passes its byte. -/
def Obligations.ReturnsPopThePc : Prop :=
  ∀ (k : Cond) (s : State),
    encode .ret = [0xC9#8] ∧ exec .ret s = .next { s with pc := wordAt s s.sp, sp := s.sp + 2#16 } ∧
    encode (.rcondOf k) = [op (0xC0 + 8 * condCode k)] ∧
    (taken k s = true → exec (.rcondOf k) s = .next { s with pc := wordAt s s.sp, sp := s.sp + 2#16 }) ∧
    (taken k s = false → exec (.rcondOf k) s = .next { s with pc := s.pc + 1#16 })

/-- 42_branch.md R219: every push and pop pair is balanced. A PUSH then a POP of the same pair restores the pair (A and the flags for PSW)
and SP; a CALL then a RET resumes after the CALL with SP as before. -/
def Obligations.PushPopAndCallRetAreBalanced : Prop :=
  (∀ (p : StackPair) (s : State), ∃ t u, exec (.pushOf p) s = .next t ∧ exec (.popOf p) t = .next u ∧
    u = { s with mem := u.mem, pc := s.pc + 2#16 }) ∧
  ∀ (w : Word) (s : State), ∃ t u, exec (.call w) s = .next t ∧ exec .ret t = .next u ∧
    u = { s with mem := u.mem, pc := s.pc + 3#16 }

/-! ## Stack -/

/-- 43_stack_io_machine.md R230, R232: PUSH BC, DE, HL take 2 from SP modulo 65536 and store the low register at SP and the high one at
SP + 1; every other byte of memory and all else but pc is unchanged. -/
def Obligations.PushStoresItsPairBelowSp : Prop :=
  ∀ (s : State) (p : StackPair) (h l : Byte),
    (p = .bc ∧ h = s.regs.b ∧ l = s.regs.c) ∨ (p = .de ∧ h = s.regs.d ∧ l = s.regs.e) ∨
    (p = .hl ∧ h = s.regs.h ∧ l = s.regs.l) →
    encode (.pushOf p) = [op (0xC5 + 16 * stackPairCode p)] ∧
    ∃ t, exec (.pushOf p) s = .next t ∧ t.readByte (s.sp - 2#16) = l ∧ t.readByte (s.sp - 1#16) = h ∧
      (∀ a, a ≠ s.sp - 2#16 → a ≠ s.sp - 1#16 → t.readByte a = s.readByte a) ∧
      t = { s with mem := t.mem, sp := s.sp - 2#16, pc := s.pc + 1#16 }

/-- 10_state.md R44, 43_stack_io_machine.md R233: PUSH PSW stores A and the flag byte, bits S Z 0 AC 0 P 1 CY, below SP. -/
def Obligations.PushPswPacksTheFlagByte : Prop :=
  ∀ s : State, encode .pushPSW = [0xF5#8] ∧ ∃ t, exec .pushPSW s = .next t ∧ t.readByte (s.sp - 2#16) = s.regs.a ∧
    (let f := t.readByte (s.sp - 1#16)
     f.getLsbD 7 = s.flags.sign ∧ f.getLsbD 6 = s.flags.zero ∧ f.getLsbD 5 = false ∧ f.getLsbD 4 = s.flags.auxCarry ∧
     f.getLsbD 3 = false ∧ f.getLsbD 2 = s.flags.parity ∧ f.getLsbD 1 = true ∧ f.getLsbD 0 = s.flags.carry) ∧
    (∀ a, a ≠ s.sp - 2#16 → a ≠ s.sp - 1#16 → t.readByte a = s.readByte a) ∧
    t = { s with mem := t.mem, sp := s.sp - 2#16, pc := s.pc + 1#16 }

/-- 43_stack_io_machine.md R231, R234, R235; 10_state.md R45: POP reads the low byte at SP and the high byte at SP + 1, adds 2 to SP and
changes no memory; POP PSW takes A and the five flags, bits 5, 3, 1 being discarded. -/
def Obligations.PopLoadsItsPairFromSp : Prop :=
  ∀ s : State, let l := s.readByte s.sp; let h := s.readByte (s.sp + 1#16)
    let popped (g : Regs) (f : Flags) : State := { s with regs := g, flags := f, sp := s.sp + 2#16, pc := s.pc + 1#16 }
    exec .popBC s = .next (popped { s.regs with b := h, c := l } s.flags) ∧
    exec .popDE s = .next (popped { s.regs with d := h, e := l } s.flags) ∧
    exec .popHL s = .next (popped { s.regs with h := h, l := l } s.flags) ∧
    exec .popPSW s = .next (popped { s.regs with a := l }
      { sign := h.getLsbD 7, zero := h.getLsbD 6, auxCarry := h.getLsbD 4, parity := h.getLsbD 2, carry := h.getLsbD 0 }) ∧
    encode .popBC = [0xC1#8] ∧ encode .popDE = [0xD1#8] ∧ encode .popHL = [0xE1#8] ∧ encode .popPSW = [0xF1#8]

/-- 43_stack_io_machine.md R236, R237: XTHL exchanges L with the byte at SP and H with the byte at SP + 1, SP unchanged, and is its own
inverse; SPHL copies HL to SP. -/
def Obligations.XthlExchangesTheTopAndSphlSetsSp : Prop :=
  ∀ s : State, encode .xthl = [0xE3#8] ∧ encode .sphl = [0xF9#8] ∧
    (∃ t, exec .xthl s = .next t ∧ StoresWord s.sp (pairOf s.regs.h s.regs.l) s t ∧
      t = { s with mem := t.mem, pc := s.pc + 1#16,
                   regs := { s.regs with l := s.readByte s.sp, h := s.readByte (s.sp + 1#16) } } ∧
      ∃ u, exec .xthl t = .next u ∧ u.regs = s.regs ∧ SameMemory s u) ∧
    exec .sphl s = .next { s with sp := pairOf s.regs.h s.regs.l, pc := s.pc + 1#16 }

/-! ## Input, output, machine control -/

/-- 44_arcade_io_shim.md R260, R261, R262: IN 0, 1, 2 give their latch, IN 3 bits (15 - offset) to (8 - offset) of the shift register; nothing
changes but A and pc. -/
def Obligations.InReadsLatchesAndShiftResult : Prop :=
  ∀ s : State,
    exec (.inPort 0#8) s = .next (aluResult s.io.inputPort0 s.flags 2 s) ∧
    exec (.inPort 1#8) s = .next (aluResult s.io.inputPort1 s.flags 2 s) ∧
    exec (.inPort 2#8) s = .next (aluResult s.io.inputPort2 s.flags 2 s) ∧
    ∃ x : Byte, exec (.inPort 3#8) s = .next (aluResult x s.flags 2 s) ∧
      ∀ j, j < 8 → x.getLsbD j = s.io.shiftRegister.getLsbD (8 - s.io.shiftOffset.toNat + j)

/-- 44_arcade_io_shim.md R263 (D3; log 2): IN from a port in 4..255 completes with a byte of which nothing is known, using up one free value;
nothing else changes but pc. -/
def Obligations.InFromAnUnmappedPortGivesAFreeByte : Prop :=
  ∀ (p : Byte) (s : State), 4 ≤ p.toNat → ∃ x : Byte,
    exec (.inPort p) s = .next (aluResult x s.flags 2 { s with draws := s.draws + 1 })

/-- 44_arcade_io_shim.md R264-R267, 43_stack_io_machine.md R239: OUT 2 keeps A modulo 8 as the offset; OUT 4 moves the high half down and A into
the high half; any other port has no effect; A is unchanged. -/
def Obligations.OutDrivesOnlyTheShiftHardware : Prop :=
  ∀ (p : Byte) (s : State), encode (.outPort p) = [0xD3#8, p] ∧
    (p = 2#8 → exec (.outPort p) s =
      .next { s with pc := s.pc + 2#16, io := { s.io with shiftOffset := BitVec.ofNat 3 (s.regs.a.toNat % 8) } }) ∧
    (p = 4#8 → exec (.outPort p) s =
      .next { s with pc := s.pc + 2#16, io := { s.io with shiftRegister := pairOf s.regs.a (high s.io.shiftRegister) } }) ∧
    (p ≠ 2#8 → p ≠ 4#8 → exec (.outPort p) s = .next { s with pc := s.pc + 2#16 })

/-- 44_arcade_io_shim.md R267: after two OUT 4 writes of x then y the shift register is y over x, whatever it held. -/
def Obligations.TwoShiftWritesReplaceTheRegister : Prop :=
  ∀ (s t u : State), exec (.outPort 4#8) s = .next t → u.io = t.io → ∃ v, exec (.outPort 4#8) u = .next v ∧
    v.io = { s.io with shiftRegister := pairOf u.regs.a s.regs.a }

/-- 43_stack_io_machine.md R240-R242, R244 (ei_pending by D4): EI by its parameter, DI, HLT and NOP. -/
def Obligations.MachineControlWritesItsFlag : Prop :=
  ∀ s : State,
    (s.params.eiDeferred = false → exec .ei s = .next { s with interruptsEnabled := true, pc := s.pc + 1#16 }) ∧
    (s.params.eiDeferred = true → exec .ei s = .next { s with eiPending := true, pc := s.pc + 1#16 }) ∧
    exec .di s = .next { s with interruptsEnabled := false, eiPending := false, pc := s.pc + 1#16 } ∧
    exec .hlt s = .next { s with halted := true, pc := s.pc + 1#16 } ∧
    exec .nop s = .next { s with pc := s.pc + 1#16 } ∧
    encode .ei = [0xFB#8] ∧ encode .di = [0xF3#8] ∧ encode .hlt = [0x76#8] ∧ encode .nop = [0x00#8]

/-- 20_memory.md R78 (D12): a byte stored by STA, and then jumped to, is the opcode of the very next step. -/
def Obligations.StoredByteIsExecutedNext : Prop :=
  ∀ (w : Word) (s t : State), s.fault = none → s.halted = false → exec (.sta w) s = .next t →
    step (t.jump w) = finishStep s.regs.a (exec
      (decodeOpcode s.regs.a (t.readByte (w + 1#16)) (pairOf (t.readByte (w + 2#16)) (t.readByte (w + 1#16)))) (t.jump w))

/-- 70_reset_and_hazards.md R345, R346: the counts the source itself gives, in its own units: MVI A and NOP in machine cycles, Ccond and
Rcond in T-states; a Jcond counts the same taken or not; a halted step gives HALT_CYCLES (log 3), an unimplemented opcode none. -/
def Obligations.SourceCycleCounts : Prop :=
  ∀ s : State, s.fault = none →
    (s.halted = true → stepCycles s = some Config.haltCycles) ∧
    (s.halted = false → s.params.cycleUnit = .machineCycles →
      (s.opcode = 0x3E#8 → stepCycles s = some 2) ∧ (s.opcode = 0x00#8 → stepCycles s = some 1)) ∧
    (s.halted = false → s.params.cycleUnit = .tStates → ∀ (k : Cond) (w : Word),
      (s.fetch = .ccondOf k w → stepCycles s = some (if taken k s then 17 else 11)) ∧
      (s.fetch = .rcondOf k → stepCycles s = some (if taken k s then 11 else 5))) ∧
    (∀ (k : Cond) (w : Word) (f : Flags), s.fetch = .jcondOf k w → stepCycles { s with flags := f } = stepCycles s) ∧
    (s.halted = false → unimplementedOpcodes.contains s.opcode = true → stepCycles s = none)

/-- 10_state.md R46-R48, R52-R54; 60_exceptions.md R291, R306; 43_stack_io_machine.md R243 (D4, log 8): every move of the CPU or the host that
changes IE, ei_pending, halted, the shift hardware or an input latch, and what it leaves there: EI, DI, the settling of a pending
EI, HLT, OUT 4, OUT 2, an accepted interrupt, a latch write of the host. The parameters no move changes. -/
def Obligations.ControlAndDeviceStateChangesOnlyByItsMoves : Prop :=
  ∀ (e : Event) (s t : State), systemStep e s = .next t →
    (t.interruptsEnabled ≠ s.interruptsEnabled →
      RunsOpcode e s (fun b => (b = 0xFB#8 ∧ s.params.eiDeferred = false ∧ t.interruptsEnabled = true) ∨
        (b = 0xF3#8 ∧ t.interruptsEnabled = false) ∨
        (b ≠ 0xFB#8 ∧ b ≠ 0xF3#8 ∧ s.params.eiDeferred = true ∧ s.eiPending = true ∧ t.interruptsEnabled = true)) ∨
      (AcceptsInterrupt e s ∧ t.interruptsEnabled = false)) ∧
    (t.eiPending ≠ s.eiPending →
      RunsOpcode e s (fun b => (b = 0xFB#8 ∧ s.params.eiDeferred = true ∧ t.eiPending = true) ∨
        (b = 0xF3#8 ∧ t.eiPending = false) ∨
        (b ≠ 0xFB#8 ∧ b ≠ 0xF3#8 ∧ s.params.eiDeferred = true ∧ t.eiPending = false ∧ t.interruptsEnabled = true)) ∨
      (AcceptsInterrupt e s ∧ t.eiPending = false)) ∧
    (t.halted ≠ s.halted →
      RunsOpcode e s (fun b => b = 0x76#8 ∧ t.halted = true) ∨ (AcceptsInterrupt e s ∧ t.halted = false)) ∧
    (t.io.shiftRegister ≠ s.io.shiftRegister →
      RunsOpcode e s (fun b => b = 0xD3#8 ∧ s.readByte (s.pc + 1#16) = 0x04#8 ∧
        t.io.shiftRegister = pairOf s.regs.a (high s.io.shiftRegister))) ∧
    (t.io.shiftOffset ≠ s.io.shiftOffset →
      RunsOpcode e s (fun b => b = 0xD3#8 ∧ s.readByte (s.pc + 1#16) = 0x02#8 ∧
        t.io.shiftOffset.toNat = s.regs.a.toNat % 8)) ∧
    (t.io.inputPort0 ≠ s.io.inputPort0 → e = .host (.writeInput 0 t.io.inputPort0)) ∧
    (t.io.inputPort1 ≠ s.io.inputPort1 → e = .host (.writeInput 1 t.io.inputPort1)) ∧
    (t.io.inputPort2 ≠ s.io.inputPort2 → e = .host (.writeInput 2 t.io.inputPort2)) ∧
    t.params = s.params
end

