-- ==== Sys2Proof/Laws/Bits.lean ====
section
/-! SUPPORT. Halves of a 16-bit value (00_scope.md R10; 10_state.md R35). -/

namespace Sys2Proof.Machine

@[simp] theorem lowByte_concat16 (h l : Byte) : lowByte (concat16 h l) = l := by
  exact BitVec.extractLsb'_append_eq_right

@[simp] theorem highByte_concat16 (h l : Byte) : highByte (concat16 h l) = h := by
  exact BitVec.extractLsb'_append_eq_left

@[simp] theorem concat16_halves (v : Word) : concat16 (highByte v) (lowByte v) = v := by
  apply BitVec.eq_of_getLsbD_eq
  intro i hi
  simp only [concat16, highByte, lowByte, BitVec.getLsbD_append, BitVec.getLsbD_extractLsb']
  by_cases h : i < 8
  · simp [h]
  · have : i - 8 < 8 := by omega
    have e : 8 + (i - 8) = i := by omega
    simp [h, this, e]

theorem concat16_toNat (h l : Byte) : (concat16 h l).toNat = h.toNat * 256 + l.toNat := by
  have := l.isLt
  rw [concat16, BitVec.toNat_append, Nat.shiftLeft_eq, mul_comm, ← Nat.two_pow_add_eq_or_of_lt this h.toNat, mul_comm]

theorem lowByte_eq (v : Word) : lowByte v = BitVec.ofNat 8 v.toNat := by
  apply BitVec.eq_of_toNat_eq
  simp [lowByte]

theorem highByte_eq (v : Word) : highByte v = BitVec.ofNat 8 (v.toNat / 256) := by
  apply BitVec.eq_of_toNat_eq
  simp [highByte, Nat.shiftRight_eq_div_pow]

end Sys2Proof.Machine
end

