-- ==== Sys2Proof/Laws/Families.lean ====
section
/-! SUPPORT. The 256 constructors by family: the meaning of a family by its operand codes, and case analysis over families
instead of constructors. -/

namespace Sys2Proof.Machine

/-! ## The meaning of a family -/

theorem exec_movOf (dst src : Reg8) (h : ¬(dst = .m ∧ src = .m)) (s : State) :
    exec (.movOf dst src) s = movReg dst src s := by
  cases dst <;> cases src <;> first | rfl | exact absurd ⟨rfl, rfl⟩ h
theorem exec_mviOf (k : Reg8) (d8 : Byte) (s : State) :
    exec (.mviOf k d8) s = mviReg k d8 s := by cases k <;> rfl
theorem exec_inrOf (k : Reg8) (s : State) :
    exec (.inrOf k) s = inrReg k s := by cases k <;> rfl
theorem exec_dcrOf (k : Reg8) (s : State) :
    exec (.dcrOf k) s = dcrReg k s := by cases k <;> rfl
theorem exec_lxiOf (k : RegPair) (d16 : Word) (s : State) :
    exec (.lxiOf k d16) s = lxiPair k d16 s := by cases k <;> rfl
theorem exec_inxOf (k : RegPair) (s : State) :
    exec (.inxOf k) s = inxPair k s := by cases k <;> rfl
theorem exec_dcxOf (k : RegPair) (s : State) :
    exec (.dcxOf k) s = dcxPair k s := by cases k <;> rfl
theorem exec_dadOf (k : RegPair) (s : State) :
    exec (.dadOf k) s = dadPair k s := by cases k <;> rfl
theorem exec_aluImmOf (k : AluOp) (d8 : Byte) (s : State) :
    exec (.aluImmOf k d8) s = aluImm k d8 s := by cases k <;> rfl
theorem exec_jcondOf (k : Cond) (a16 : Word) (s : State) :
    exec (.jcondOf k a16) s = jumpIf k a16 s := by cases k <;> rfl
theorem exec_ccondOf (k : Cond) (a16 : Word) (s : State) :
    exec (.ccondOf k a16) s = callIf k a16 s := by cases k <;> rfl
theorem exec_rcondOf (k : Cond) (s : State) :
    exec (.rcondOf k) s = retIf k s := by cases k <;> rfl
theorem exec_pushOf (k : StackPair) (s : State) :
    exec (.pushOf k) s = pushPair k s := by cases k <;> rfl
theorem exec_popOf (k : StackPair) (s : State) :
    exec (.popOf k) s = popPair k s := by cases k <;> rfl
theorem exec_aluOf (op : AluOp) (r : Reg8) (s : State) :
    exec (.aluOf op r) s = aluReg op r s := by cases op <;> cases r <;> rfl
theorem exec_rstOfBits (b2 b1 b0 : Bool) (s : State) :
    exec (.rstOfBits b2 b1 b0) s = restart (4 * b2.toNat + 2 * b1.toNat + b0.toNat) s := by
  cases b2 <;> cases b1 <;> cases b0 <;> rfl
theorem exec_unimplemented (i : Instr) (h : i.implemented = false) (s : State) :
    ∃ op, encode i = [op] ∧ exec i s = .next (s.recordUnimplemented op) := by
  cases i <;> first | exact ⟨_, rfl, rfl⟩ | cases h

/-! ## Case analysis over families -/

/-- To show something of every instruction, show it family by family. -/
theorem Instr.byFamily {P : Instr → Prop}
    (mov : ∀ dst src, ¬(dst = .m ∧ src = .m) → P (.movOf dst src))
    (mvi : ∀ k d8, P (.mviOf k d8))
    (inr : ∀ k, P (.inrOf k))
    (dcr : ∀ k, P (.dcrOf k))
    (lxi : ∀ k d16, P (.lxiOf k d16))
    (inx : ∀ k, P (.inxOf k))
    (dcx : ∀ k, P (.dcxOf k))
    (dad : ∀ k, P (.dadOf k))
    (alu : ∀ op r, P (.aluOf op r))
    (aluImm : ∀ k d8, P (.aluImmOf k d8))
    (jcond : ∀ k a16, P (.jcondOf k a16))
    (ccond : ∀ k a16, P (.ccondOf k a16))
    (rcond : ∀ k, P (.rcondOf k))
    (push : ∀ k, P (.pushOf k))
    (pop : ∀ k, P (.popOf k))
    (rst : ∀ b2 b1 b0, P (.rstOfBits b2 b1 b0))
    (unimplemented : ∀ i, Instr.implemented i = false → P i)
    (ldaxBC : P .ldaxBC)
    (ldaxDE : P .ldaxDE)
    (staxBC : P .staxBC)
    (staxDE : P .staxDE)
    (lda : ∀ a16, P (.lda a16))
    (sta : ∀ a16, P (.sta a16))
    (lhld : ∀ a16, P (.lhld a16))
    (shld : ∀ a16, P (.shld a16))
    (xchg : P .xchg)
    (daa : P .daa)
    (rlc : P .rlc)
    (rrc : P .rrc)
    (ral : P .ral)
    (rar : P .rar)
    (cma : P .cma)
    (cmc : P .cmc)
    (stc : P .stc)
    (jmp : ∀ a16, P (.jmp a16))
    (call : ∀ a16, P (.call a16))
    (ret : P .ret)
    (pchl : P .pchl)
    (xthl : P .xthl)
    (sphl : P .sphl)
    (inPort : ∀ port, P (.inPort port))
    (outPort : ∀ port, P (.outPort port))
    (ei : P .ei)
    (di : P .di)
    (hlt : P .hlt)
    (nop : P .nop)
    : ∀ i, P i := by
  intro i
  cases i with
  | nop => exact nop
  | lxiBC w => exact lxi .bc w
  | staxBC => exact staxBC
  | inxBC => exact inx .bc
  | inrB => exact inr .b
  | dcrB => exact dcr .b
  | mviB v => exact mvi .b v
  | rlc => exact rlc
  | unimplemented08 => exact unimplemented .unimplemented08 rfl
  | dadBC => exact dad .bc
  | ldaxBC => exact ldaxBC
  | dcxBC => exact dcx .bc
  | inrC => exact inr .c
  | dcrC => exact dcr .c
  | mviC v => exact mvi .c v
  | rrc => exact rrc
  | unimplemented10 => exact unimplemented .unimplemented10 rfl
  | lxiDE w => exact lxi .de w
  | staxDE => exact staxDE
  | inxDE => exact inx .de
  | inrD => exact inr .d
  | dcrD => exact dcr .d
  | mviD v => exact mvi .d v
  | ral => exact ral
  | unimplemented18 => exact unimplemented .unimplemented18 rfl
  | dadDE => exact dad .de
  | ldaxDE => exact ldaxDE
  | dcxDE => exact dcx .de
  | inrE => exact inr .e
  | dcrE => exact dcr .e
  | mviE v => exact mvi .e v
  | rar => exact rar
  | unimplemented20 => exact unimplemented .unimplemented20 rfl
  | lxiHL w => exact lxi .hl w
  | shld w => exact shld w
  | inxHL => exact inx .hl
  | inrH => exact inr .h
  | dcrH => exact dcr .h
  | mviH v => exact mvi .h v
  | daa => exact daa
  | unimplemented28 => exact unimplemented .unimplemented28 rfl
  | dadHL => exact dad .hl
  | lhld w => exact lhld w
  | dcxHL => exact dcx .hl
  | inrL => exact inr .l
  | dcrL => exact dcr .l
  | mviL v => exact mvi .l v
  | cma => exact cma
  | unimplemented30 => exact unimplemented .unimplemented30 rfl
  | lxiSP w => exact lxi .sp w
  | sta w => exact sta w
  | inxSP => exact inx .sp
  | inrM => exact inr .m
  | dcrM => exact dcr .m
  | mviM v => exact mvi .m v
  | stc => exact stc
  | unimplemented38 => exact unimplemented .unimplemented38 rfl
  | dadSP => exact dad .sp
  | lda w => exact lda w
  | dcxSP => exact dcx .sp
  | inrA => exact inr .a
  | dcrA => exact dcr .a
  | mviA v => exact mvi .a v
  | cmc => exact cmc
  | movBB => exact mov .b .b (by decide)
  | movBC => exact mov .b .c (by decide)
  | movBD => exact mov .b .d (by decide)
  | movBE => exact mov .b .e (by decide)
  | movBH => exact mov .b .h (by decide)
  | movBL => exact mov .b .l (by decide)
  | movBM => exact mov .b .m (by decide)
  | movBA => exact mov .b .a (by decide)
  | movCB => exact mov .c .b (by decide)
  | movCC => exact mov .c .c (by decide)
  | movCD => exact mov .c .d (by decide)
  | movCE => exact mov .c .e (by decide)
  | movCH => exact mov .c .h (by decide)
  | movCL => exact mov .c .l (by decide)
  | movCM => exact mov .c .m (by decide)
  | movCA => exact mov .c .a (by decide)
  | movDB => exact mov .d .b (by decide)
  | movDC => exact mov .d .c (by decide)
  | movDD => exact mov .d .d (by decide)
  | movDE => exact mov .d .e (by decide)
  | movDH => exact mov .d .h (by decide)
  | movDL => exact mov .d .l (by decide)
  | movDM => exact mov .d .m (by decide)
  | movDA => exact mov .d .a (by decide)
  | movEB => exact mov .e .b (by decide)
  | movEC => exact mov .e .c (by decide)
  | movED => exact mov .e .d (by decide)
  | movEE => exact mov .e .e (by decide)
  | movEH => exact mov .e .h (by decide)
  | movEL => exact mov .e .l (by decide)
  | movEM => exact mov .e .m (by decide)
  | movEA => exact mov .e .a (by decide)
  | movHB => exact mov .h .b (by decide)
  | movHC => exact mov .h .c (by decide)
  | movHD => exact mov .h .d (by decide)
  | movHE => exact mov .h .e (by decide)
  | movHH => exact mov .h .h (by decide)
  | movHL => exact mov .h .l (by decide)
  | movHM => exact mov .h .m (by decide)
  | movHA => exact mov .h .a (by decide)
  | movLB => exact mov .l .b (by decide)
  | movLC => exact mov .l .c (by decide)
  | movLD => exact mov .l .d (by decide)
  | movLE => exact mov .l .e (by decide)
  | movLH => exact mov .l .h (by decide)
  | movLL => exact mov .l .l (by decide)
  | movLM => exact mov .l .m (by decide)
  | movLA => exact mov .l .a (by decide)
  | movMB => exact mov .m .b (by decide)
  | movMC => exact mov .m .c (by decide)
  | movMD => exact mov .m .d (by decide)
  | movME => exact mov .m .e (by decide)
  | movMH => exact mov .m .h (by decide)
  | movML => exact mov .m .l (by decide)
  | hlt => exact hlt
  | movMA => exact mov .m .a (by decide)
  | movAB => exact mov .a .b (by decide)
  | movAC => exact mov .a .c (by decide)
  | movAD => exact mov .a .d (by decide)
  | movAE => exact mov .a .e (by decide)
  | movAH => exact mov .a .h (by decide)
  | movAL => exact mov .a .l (by decide)
  | movAM => exact mov .a .m (by decide)
  | movAA => exact mov .a .a (by decide)
  | addB => exact alu .add .b
  | addC => exact alu .add .c
  | addD => exact alu .add .d
  | addE => exact alu .add .e
  | addH => exact alu .add .h
  | addL => exact alu .add .l
  | addM => exact alu .add .m
  | addA => exact alu .add .a
  | adcB => exact alu .adc .b
  | adcC => exact alu .adc .c
  | adcD => exact alu .adc .d
  | adcE => exact alu .adc .e
  | adcH => exact alu .adc .h
  | adcL => exact alu .adc .l
  | adcM => exact alu .adc .m
  | adcA => exact alu .adc .a
  | subB => exact alu .sub .b
  | subC => exact alu .sub .c
  | subD => exact alu .sub .d
  | subE => exact alu .sub .e
  | subH => exact alu .sub .h
  | subL => exact alu .sub .l
  | subM => exact alu .sub .m
  | subA => exact alu .sub .a
  | sbbB => exact alu .sbb .b
  | sbbC => exact alu .sbb .c
  | sbbD => exact alu .sbb .d
  | sbbE => exact alu .sbb .e
  | sbbH => exact alu .sbb .h
  | sbbL => exact alu .sbb .l
  | sbbM => exact alu .sbb .m
  | sbbA => exact alu .sbb .a
  | anaB => exact alu .ana .b
  | anaC => exact alu .ana .c
  | anaD => exact alu .ana .d
  | anaE => exact alu .ana .e
  | anaH => exact alu .ana .h
  | anaL => exact alu .ana .l
  | anaM => exact alu .ana .m
  | anaA => exact alu .ana .a
  | xraB => exact alu .xra .b
  | xraC => exact alu .xra .c
  | xraD => exact alu .xra .d
  | xraE => exact alu .xra .e
  | xraH => exact alu .xra .h
  | xraL => exact alu .xra .l
  | xraM => exact alu .xra .m
  | xraA => exact alu .xra .a
  | oraB => exact alu .ora .b
  | oraC => exact alu .ora .c
  | oraD => exact alu .ora .d
  | oraE => exact alu .ora .e
  | oraH => exact alu .ora .h
  | oraL => exact alu .ora .l
  | oraM => exact alu .ora .m
  | oraA => exact alu .ora .a
  | cmpB => exact alu .cmp .b
  | cmpC => exact alu .cmp .c
  | cmpD => exact alu .cmp .d
  | cmpE => exact alu .cmp .e
  | cmpH => exact alu .cmp .h
  | cmpL => exact alu .cmp .l
  | cmpM => exact alu .cmp .m
  | cmpA => exact alu .cmp .a
  | rnz => exact rcond .nz
  | popBC => exact pop .bc
  | jnz w => exact jcond .nz w
  | jmp w => exact jmp w
  | cnz w => exact ccond .nz w
  | pushBC => exact push .bc
  | adi v => exact aluImm .add v
  | rst0 => exact rst false false false
  | rz => exact rcond .z
  | ret => exact ret
  | jz w => exact jcond .z w
  | unimplementedCB => exact unimplemented .unimplementedCB rfl
  | cz w => exact ccond .z w
  | call w => exact call w
  | aci v => exact aluImm .adc v
  | rst1 => exact rst false false true
  | rnc => exact rcond .nc
  | popDE => exact pop .de
  | jnc w => exact jcond .nc w
  | outPort v => exact outPort v
  | cnc w => exact ccond .nc w
  | pushDE => exact push .de
  | sui v => exact aluImm .sub v
  | rst2 => exact rst false true false
  | rc => exact rcond .c
  | unimplementedD9 => exact unimplemented .unimplementedD9 rfl
  | jc w => exact jcond .c w
  | inPort v => exact inPort v
  | cc w => exact ccond .c w
  | unimplementedDD => exact unimplemented .unimplementedDD rfl
  | sbi v => exact aluImm .sbb v
  | rst3 => exact rst false true true
  | rpo => exact rcond .po
  | popHL => exact pop .hl
  | jpo w => exact jcond .po w
  | xthl => exact xthl
  | cpo w => exact ccond .po w
  | pushHL => exact push .hl
  | ani v => exact aluImm .ana v
  | rst4 => exact rst true false false
  | rpe => exact rcond .pe
  | pchl => exact pchl
  | jpe w => exact jcond .pe w
  | xchg => exact xchg
  | cpe w => exact ccond .pe w
  | unimplementedED => exact unimplemented .unimplementedED rfl
  | xri v => exact aluImm .xra v
  | rst5 => exact rst true false true
  | rp => exact rcond .p
  | popPSW => exact pop .psw
  | jp w => exact jcond .p w
  | di => exact di
  | cp w => exact ccond .p w
  | pushPSW => exact push .psw
  | ori v => exact aluImm .ora v
  | rst6 => exact rst true true false
  | rm => exact rcond .m
  | sphl => exact sphl
  | jm w => exact jcond .m w
  | ei => exact ei
  | cm w => exact ccond .m w
  | unimplementedFD => exact unimplemented .unimplementedFD rfl
  | cpi v => exact aluImm .cmp v
  | rst7 => exact rst true true true

end Sys2Proof.Machine
end

