-- ==== Sys2Proof/Laws/Exec.lean ====
section
/-! SUPPORT. What `exec` can do, said once: every instruction answers a next state, and `exec_next` gives that state family by
family, so that a frame or an invariant is shown over the named operations and not over 256 constructors. -/

namespace Sys2Proof.Machine

/-- Every instruction answers a next state. -/
theorem exec_total (i : Instr) (s : State) : ∃ t, exec i s = .next t := by
  cases i <;> exact ⟨_, rfl⟩

/-- To show `Q i s t` of every instruction `i` that takes `s` to `t`, show it of each family's own next state. -/
theorem exec_next {Q : Instr → State → State → Prop} {i : Instr} {s t : State} (h : exec i s = .next t)
    (mov : ∀ dst src, ¬(dst = .m ∧ src = .m) → Q (.movOf dst src) s ((s.writeReg dst (s.readReg src)).advance 1))
    (mvi : ∀ k v, Q (.mviOf k v) s ((s.writeReg k v).advance 2))
    (inr : ∀ k, Q (.inrOf k) s ({ s.writeReg k (add8 (s.readReg k) 1#8 false).res with
      flags := s.flags.incDec (add8 (s.readReg k) 1#8 false) }.advance 1))
    (dcr : ∀ k, Q (.dcrOf k) s ({ s.writeReg k (sub8 (s.readReg k) 1#8 false).res with
      flags := s.flags.incDec (sub8 (s.readReg k) 1#8 false) }.advance 1))
    (lxi : ∀ p w, Q (.lxiOf p w) s ((s.writePair p w).advance 3))
    (inx : ∀ p, Q (.inxOf p) s ((s.writePair p (s.readPair p + 1#16)).advance 1))
    (dcx : ∀ p, Q (.dcxOf p) s ((s.writePair p (s.readPair p - 1#16)).advance 1))
    (dad : ∀ p, Q (.dadOf p) s ({ s.writePair .hl (add16 s.hl (s.readPair p)).1 with
      flags := { s.flags with carry := (add16 s.hl (s.readPair p)).2 } }.advance 1))
    (alu : ∀ op r, Q (.aluOf op r) s ((aluApply op (s.readReg r) s).advance 1))
    (aluImm : ∀ op v, Q (.aluImmOf op v) s ((aluApply op v s).advance 2))
    (jcond : ∀ k w, Q (.jcondOf k w) s (if k.holds s.flags then s.jump w else s.advance 3))
    (ccond : ∀ k w, Q (.ccondOf k w) s (if k.holds s.flags then s.callTo 3 w else s.advance 3))
    (rcond : ∀ k, Q (.rcondOf k) s (if k.holds s.flags then s.popPc else s.advance 1))
    (push : ∀ p, Q (.pushOf p) s ((s.push16 (s.readStackPair p)).advance 1))
    (pop : ∀ p, Q (.popOf p) s ((s.drop16.writeStackPair p s.top16).advance 1))
    (rst : ∀ x y z, Q (.rstOfBits x y z) s (s.callTo 1 (vector (4 * x.toNat + 2 * y.toNat + z.toNat))))
    (unimplemented : ∀ j op, j.implemented = false → encode j = [op] → Q j s (s.recordUnimplemented op))
    (ldaxBC : Q .ldaxBC s ((s.writeReg .a (s.readByte (s.readPair .bc))).advance 1))
    (ldaxDE : Q .ldaxDE s ((s.writeReg .a (s.readByte (s.readPair .de))).advance 1))
    (staxBC : Q .staxBC s ((s.writeByte (s.readPair .bc) s.regs.a).advance 1))
    (staxDE : Q .staxDE s ((s.writeByte (s.readPair .de) s.regs.a).advance 1))
    (lda : ∀ w, Q (.lda w) s ((s.writeReg .a (s.readByte w)).advance 3))
    (sta : ∀ w, Q (.sta w) s ((s.writeByte w s.regs.a).advance 3))
    (lhld : ∀ w, Q (.lhld w) s ((s.writePair .hl (s.readWord w)).advance 3))
    (shld : ∀ w, Q (.shld w) s ((s.writeWord w s.hl).advance 3))
    (xchg : ∀ t, exec .xchg s = .next t → Q .xchg s t)
    (daa : ∀ t, exec .daa s = .next t → Q .daa s t)
    (rlc : ∀ t, exec .rlc s = .next t → Q .rlc s t)
    (rrc : ∀ t, exec .rrc s = .next t → Q .rrc s t)
    (ral : ∀ t, exec .ral s = .next t → Q .ral s t)
    (rar : ∀ t, exec .rar s = .next t → Q .rar s t)
    (cma : Q .cma s ({ s with regs := { s.regs with a := ~~~s.regs.a } }.advance 1))
    (cmc : Q .cmc s ((s.setCarry (!s.flags.carry)).advance 1))
    (stc : Q .stc s ((s.setCarry true).advance 1))
    (jmp : ∀ w, Q (.jmp w) s (s.jump w))
    (call : ∀ w, Q (.call w) s (s.callTo 3 w))
    (ret : Q .ret s s.popPc)
    (pchl : Q .pchl s (s.jump s.hl))
    (xthl : Q .xthl s (((s.writeWord s.sp s.hl).writePair .hl (s.readWord s.sp)).advance 1))
    (sphl : Q .sphl s ({ s with sp := s.hl }.advance 1))
    (inPort : ∀ p, Q (.inPort p) s ((({ s with regs := { s.regs with a := s.portIn p } }).countDraw p).advance 2))
    (outPort : ∀ p, Q (.outPort p) s ((s.portOut p s.regs.a).advance 2))
    (ei : Q .ei s (if s.params.eiDeferred then { s with eiPending := true }.advance 1
      else { s with interruptsEnabled := true }.advance 1))
    (di : Q .di s ({ s with interruptsEnabled := false, eiPending := false }.advance 1))
    (hlt : Q .hlt s ({ s with halted := true }.advance 1))
    (nop : Q .nop s (s.advance 1))
    : Q i s t := by
  induction i using Instr.byFamily with
  | mov dst src hd => rw [exec_movOf _ _ hd] at h; cases h; exact mov _ _ hd
  | mvi => rw [exec_mviOf] at h; cases h; apply mvi
  | inr => rw [exec_inrOf] at h; cases h; apply inr
  | dcr => rw [exec_dcrOf] at h; cases h; apply dcr
  | lxi => rw [exec_lxiOf] at h; cases h; apply lxi
  | inx => rw [exec_inxOf] at h; cases h; apply inx
  | dcx => rw [exec_dcxOf] at h; cases h; apply dcx
  | dad => rw [exec_dadOf] at h; cases h; apply dad
  | alu => rw [exec_aluOf] at h; cases h; apply alu
  | aluImm => rw [exec_aluImmOf] at h; cases h; apply aluImm
  | jcond => rw [exec_jcondOf] at h; cases h; apply jcond
  | ccond => rw [exec_ccondOf] at h; cases h; apply ccond
  | rcond => rw [exec_rcondOf] at h; cases h; apply rcond
  | push => rw [exec_pushOf] at h; cases h; apply push
  | pop => rw [exec_popOf] at h; cases h; apply pop
  | rst => rw [exec_rstOfBits] at h; cases h; apply rst
  | unimplemented j hj =>
    obtain ⟨op, he, hx⟩ := exec_unimplemented j hj s
    rw [hx] at h; cases h; exact unimplemented _ _ hj he
  | xchg => exact xchg _ h
  | daa => exact daa _ h
  | rlc => exact rlc _ h
  | rrc => exact rrc _ h
  | ral => exact ral _ h
  | rar => exact rar _ h
  | lda w => cases h; exact lda w
  | sta w => cases h; exact sta w
  | lhld w => cases h; exact lhld w
  | shld w => cases h; exact shld w
  | jmp w => cases h; exact jmp w
  | call w => cases h; exact call w
  | inPort p => cases h; exact inPort p
  | outPort p => cases h; exact outPort p
  | _ => cases h; assumption

/-! ## The step -/

/-- A step that is neither faulted nor halted fetches, executes and settles a pending EI (30_encoding.md R99). -/
theorem step_running {s : State} (hf : s.fault = none) (hh : s.halted = false) :
    step s = finishStep s.opcode (exec s.fetch s) := by
  rw [step, hf]; simp [hh]

theorem step_halted {s : State} (hf : s.fault = none) (hh : s.halted = true) : step s = .next s := by
  rw [step, hf]; simp [hh]

theorem step_faulted {s : State} {r : FaultRecord} (h : s.fault = some r) :
    step s = .fault (.unimplementedOpcode r.op r.addr) := by
  rw [step, h]

/-- Everything a step that answers a next state can have done. -/
theorem step_cases {s t : State} (h : step s = .next t) :
    s.fault = none ∧ ((s.halted = true ∧ t = s) ∨
      (s.halted = false ∧ ∃ u, exec s.fetch s = .next u ∧ t = u.settleEi s.opcode)) := by
  cases hf : s.fault with
  | some r => rw [step_faulted hf] at h; cases h
  | none =>
    refine ⟨rfl, ?_⟩
    cases hh : s.halted with
    | true => rw [step_halted hf hh] at h; cases h; exact .inl ⟨rfl, rfl⟩
    | false =>
      obtain ⟨u, hu⟩ := exec_total s.fetch s
      rw [step_running hf hh, hu] at h; cases h
      exact .inr ⟨rfl, u, hu, rfl⟩

/-- Settling a pending EI changes IE and ei_pending, and only under EI_DEFERRED after an instruction other than EI that left
no fault; else it changes nothing (30_encoding.md R99). -/
theorem State.settleEi_cases (s : State) (op : Byte) :
    (s.fault = none ∧ s.params.eiDeferred = true ∧ op ≠ 0xFB#8 ∧ s.eiPending = true ∧
      s.settleEi op = { s with interruptsEnabled := true, eiPending := false }) ∨
    (¬(s.fault = none ∧ s.params.eiDeferred = true ∧ op ≠ 0xFB#8 ∧ s.eiPending = true) ∧ s.settleEi op = s) := by
  by_cases h : s.fault.isNone ∧ s.params.eiDeferred = true ∧ op ≠ 0xFB#8 ∧ s.eiPending = true
  · exact .inl ⟨by simpa using h.1, h.2.1, h.2.2.1, h.2.2.2, by rw [State.settleEi, if_pos h]⟩
  · exact .inr ⟨by simpa using h, by rw [State.settleEi, if_neg h]⟩

/-! ## Sequences of moves -/

/-- What every move of either agent keeps, every schedule keeps. -/
theorem runEvents_keeps {P : State → Prop} (hP : ∀ e s t, P s → systemStep e s = .next t → P t) (es : List Event) {s t : State}
    (h : P s) (hr : runEvents es s = .next t) : P t := by
  induction es generalizing s with
  | nil => cases hr; exact h
  | cons e es ih =>
    rw [runEvents] at hr
    split at hr
    · next u hu => exact ih (hP e s u h hu) hr
    · cases hr
    · cases hr

end Sys2Proof.Machine
end

