-- ==== Sys2Proof/Laws/Flags.lean ====
section
/-! SUPPORT. The flag computations as plain arithmetic: adders, nibbles, the flag byte, the DAA correction
(41_arith_logic_rotate.md R150-R153, R175, R176; 10_state.md R44, R45). -/

namespace Sys2Proof.Machine

/-- A fact about every byte is a fact about 256 numbers. -/
theorem byte_cases {P : Byte → Prop} (h : ∀ n : Fin 256, P (BitVec.ofFin n)) (b : Byte) : P b := h b.toFin

/-! ## Nibbles -/

theorem low_nibble (x : Byte) : (x &&& 0x0F#8).toNat = x.toNat % 16 := by
  rw [BitVec.toNat_and]; exact Nat.and_two_pow_sub_one_eq_mod _ 4

theorem low_nibble_not (x : Byte) : (~~~x &&& 0x0F#8).toNat = 15 - x.toNat % 16 := by
  have := x.isLt
  rw [low_nibble, BitVec.toNat_not]; omega

theorem high_nibble (x : Byte) : (x >>> 4).toNat = x.toNat / 16 := by
  rw [BitVec.toNat_ushiftRight, Nat.shiftRight_eq_div_pow]

/-! ## Adders -/

theorem add8_ac (x y : Byte) (cin : Bool) :
    (add8 x y cin).ac = decide (15 < x.toNat % 16 + y.toNat % 16 + cin.toNat) := by
  simp only [add8, low_nibble, gt_iff_lt]

theorem sub8_res (x y : Byte) (bin : Bool) :
    (sub8 x y bin).res = BitVec.ofInt 8 ((x.toNat : Int) - y.toNat - bin.toNat) := by
  apply BitVec.eq_of_toNat_eq
  have := x.isLt; have := y.isLt; have := bin.toNat_le
  simp [sub8, BitVec.toNat_ofInt]
  omega

/-- CY of a subtraction is the borrow. -/
theorem sub8_cy (x y : Byte) (bin : Bool) : (sub8 x y bin).cy = decide (x.toNat < y.toNat + bin.toNat) := by
  have := x.isLt; have := y.isLt; have := bin.toNat_le
  simp only [sub8, BitVec.toNat_not, ← decide_not, decide_eq_decide]
  omega

theorem sub8_ac (x y : Byte) (bin : Bool) :
    (sub8 x y bin).ac = decide (15 < x.toNat % 16 + (15 - y.toNat % 16) + (1 - bin.toNat)) := by
  simp only [sub8, low_nibble_not]; rw [low_nibble]

theorem add8_one_res (x : Byte) : (add8 x 1#8 false).res = x + 1#8 := by
  apply BitVec.eq_of_toNat_eq; simp [add8]

set_option maxRecDepth 10000 in
theorem sub8_one_res (x : Byte) : (sub8 x 1#8 false).res = x - 1#8 := by
  revert x; apply byte_cases; decide

/-! ## Zero and sign -/

theorem zero_flag (x : Byte) : (x == 0x00#8) = decide (x.toNat = 0) := by
  rw [Bool.eq_iff_iff]; simp [BitVec.toNat_eq]

set_option maxRecDepth 10000 in
theorem sign_flag (x : Byte) : x.getLsbD 7 = decide (128 ≤ x.toNat) := by
  revert x; apply byte_cases; decide

/-! ## The flag byte and the decimal correction -/

/-- Unpacking the packed flag byte gives the flags back. -/
@[simp] theorem Flags.ofByte_toByte (f : Flags) : Flags.ofByte f.toByte = f := by
  obtain ⟨z, s, p, c, ac⟩ := f
  revert z s p c ac; decide

theorem daaIntelCorrection_toNat (a : Byte) (f : Flags) :
    (daaIntelCorrection a f).toNat = (if daaIntelLow a f then 6 else 0) + (if daaIntelHigh a f then 0x60 else 0) := by
  rw [daaIntelCorrection]; cases daaIntelLow a f <;> cases daaIntelHigh a f <;> rfl

end Sys2Proof.Machine
end

