-- ==== Sys2Proof/Laws/Memory.lean ====
section
/-! SUPPORT. The laws of memory: read after write, and that every memory operation keeps the canonical form (20_memory.md
R60, R69; 70_reset_and_hazards.md R332). -/

namespace Sys2Proof.Machine

theorem Memory.read_append (m k : Memory) (a : Nat) :
    Memory.read (m ++ k) a = if a ∈ m.map (·.1) then Memory.read m a else Memory.read k a := by
  induction m with
  | nil => simp
  | cons c m ih =>
    by_cases h : c.1 = a
    · simp [Memory.read, h]
    · simp [Memory.read, h, ih, Ne.symm h]

theorem Memory.read_unlisted {m : Memory} {a : Nat} (h : a ∉ m.map (·.1)) : Memory.read m a = 0x00#8 := by
  induction m with
  | nil => rfl
  | cons c m ih =>
    simp only [List.map_cons, List.mem_cons, not_or] at h
    simp [Memory.read, Ne.symm h.1, ih h.2]

/-- Dropping cells at other addresses does not change what an address reads as. -/
theorem Memory.read_filter (m : Memory) (p : Nat → Bool) (a : Nat) (h : p a = true) :
    Memory.read (m.filter (fun c => p c.1)) a = Memory.read m a := by
  induction m with
  | nil => rfl
  | cons c m ih =>
    by_cases hc : p c.1 = true
    · simp [hc, Memory.read, ih]
    · have : c.1 ≠ a := fun e => hc (e ▸ h)
      simp [hc, Memory.read, ih, this]

theorem Memory.unlisted_below (m : Memory) (a b : Nat) (h : a ≤ b) :
    b ∉ (m.filter (fun c => decide (c.1 < a))).map (·.1) := by
  simp only [List.mem_map, List.mem_filter, decide_eq_true_eq, not_exists, not_and, and_imp]
  intro c _ hc; omega

theorem Memory.unlisted_above (m : Memory) (a b : Nat) (h : b ≤ a) :
    b ∉ (m.filter (fun c => decide (a < c.1))).map (·.1) := by
  simp only [List.mem_map, List.mem_filter, decide_eq_true_eq, not_exists, not_and, and_imp]
  intro c _ hc; omega

/-- A read of the written address gives the value written, whatever the memory. -/
@[simp] theorem Memory.read_write_same (m : Memory) (a : Nat) (v : Byte) :
    Memory.read (Memory.write m a v) a = v := by
  rw [Memory.write, List.append_assoc, Memory.read_append, if_neg (Memory.unlisted_below m a a le_rfl)]
  by_cases hv : v = 0x00#8
  · simpa [hv] using Memory.read_unlisted (Memory.unlisted_above m a a le_rfl)
  · rw [if_neg hv]; simp [Memory.read]

/-- A write leaves every other address alone, whatever the memory. -/
theorem Memory.read_write_ne (m : Memory) (a b : Nat) (v : Byte) (h : b ≠ a) :
    Memory.read (Memory.write m a v) b = Memory.read m b := by
  have mid : Memory.read ((if v = 0x00#8 then [] else [(a, v)]) ++ m.filter (fun c => decide (a < c.1))) b
      = Memory.read (m.filter (fun c => decide (a < c.1))) b := by
    split <;> simp [Memory.read, Ne.symm h]
  rw [Memory.write, List.append_assoc, Memory.read_append, mid]
  rcases Nat.lt_or_gt_of_ne h with hlt | hgt
  · have keep := Memory.read_filter m (fun k => decide (k < a)) b (by simpa using hlt)
    split
    · exact keep
    · next hu => rw [← keep, Memory.read_unlisted hu, Memory.read_unlisted (Memory.unlisted_above m a b (by omega))]
  · rw [if_neg (Memory.unlisted_below m a b (by omega))]
    exact Memory.read_filter m (fun k => decide (a < k)) b (by simpa using hgt)

theorem Memory.wf_nil : Memory.wf [] := by decide

/-- A write keeps the canonical form. -/
theorem Memory.write_wf {m : Memory} (h : Memory.wf m) (a : Nat) (ha : a < 65536) (v : Byte) :
    Memory.wf (Memory.write m a v) := by
  obtain ⟨hp, hv⟩ := h
  have mid : ∀ c ∈ (if v = 0x00#8 then [] else [((a, v) : Host.Cell)]), c = (a, v) ∧ v ≠ 0x00#8 := by
    split <;> simp_all
  refine ⟨?_, ?_⟩
  · rw [Memory.write, List.append_assoc, List.pairwise_append]
    refine ⟨hp.filter _, ?_, ?_⟩
    · rw [List.pairwise_append]
      refine ⟨by split <;> simp, hp.filter _, ?_⟩
      intro c hc k hk
      rw [(mid c hc).1]
      exact of_decide_eq_true (List.mem_filter.mp hk).2
    · intro c hc k hk
      have hca : c.1 < a := of_decide_eq_true (List.mem_filter.mp hc).2
      rcases List.mem_append.mp hk with hk | hk
      · rw [(mid k hk).1]; exact hca
      · exact hca.trans (of_decide_eq_true (List.mem_filter.mp hk).2)
  · intro c hc
    simp only [Memory.write, List.mem_append] at hc
    rcases hc with (hc | hc) | hc
    · exact hv c (List.mem_filter.mp hc).1
    · obtain ⟨rfl, hne⟩ := mid c hc; exact ⟨ha, hne⟩
    · exact hv c (List.mem_filter.mp hc).1

/-- The cells of an image lie at its addresses and are not 0x00#8. -/
theorem Memory.mem_ofImage {image : List Byte} {a : Nat} {c : Host.Cell} (h : c ∈ Memory.ofImage image a) :
    a ≤ c.1 ∧ c.1 < a + image.length ∧ c.2 ≠ 0x00#8 := by
  induction image generalizing a with
  | nil => simp [Memory.ofImage] at h
  | cons v image ih =>
    rcases List.mem_append.mp h with h | h
    · split at h <;> simp_all
    · have := ih h
      simp only [List.length_cons]
      exact ⟨by omega, by omega, this.2.2⟩

/-- A loaded image is in canonical form. -/
theorem Memory.ofImage_wf (image : List Byte) (a : Nat) (h : a + image.length ≤ 65536) :
    Memory.wf (Memory.ofImage image a) := by
  refine ⟨?_, fun c hc => ⟨by have := (Memory.mem_ofImage hc).2.1; omega, (Memory.mem_ofImage hc).2.2⟩⟩
  induction image generalizing a with
  | nil => exact List.Pairwise.nil
  | cons v image ih =>
    rw [Memory.ofImage, List.pairwise_append]
    refine ⟨by split <;> simp, ih (a + 1) (by simp at h; omega), ?_⟩
    intro c hc k hk
    have := (Memory.mem_ofImage hk).1
    split at hc <;> simp_all

/-! ## The same, through the state's reads and writes of one byte -/

@[simp] theorem State.readByte_writeByte_same (s : State) (a : Word) (v : Byte) :
    (s.writeByte a v).readByte a = v := Memory.read_write_same _ _ _

theorem State.readByte_writeByte_ne (s : State) (a b : Word) (v : Byte) (h : b ≠ a) :
    (s.writeByte a v).readByte b = s.readByte b :=
  Memory.read_write_ne _ _ _ _ (fun e => h (BitVec.eq_of_toNat_eq e))

theorem State.readByte_writeByte (s : State) (a b : Word) (v : Byte) :
    (s.writeByte a v).readByte b = if b = a then v else s.readByte b := by
  split
  · next h => rw [h, State.readByte_writeByte_same]
  · next h => exact State.readByte_writeByte_ne s a b v h

theorem State.writeByte_wf {s : State} (h : Memory.wf s.mem) (a : Word) (v : Byte) :
    Memory.wf (s.writeByte a v).mem := Memory.write_wf h _ a.isLt v

/-- An address and the next one differ, also where they wrap. -/
theorem next_address_ne (a : Word) : a + 1#16 ≠ a := by
  bv_omega

/-- What a byte reads as after a 16-bit write: the low byte at the address, the high byte at the next, the rest as
before (R63). -/
theorem State.readByte_writeWord (s : State) (a v b : Word) :
    (s.writeWord a v).readByte b
      = if b = a + 1#16 then highByte v else if b = a then lowByte v else s.readByte b := by
  simp only [State.writeWord, State.readByte_writeByte]

theorem State.writeWord_wf {s : State} (h : Memory.wf s.mem) (a v : Word) : Memory.wf (s.writeWord a v).mem :=
  State.writeByte_wf (State.writeByte_wf h _ _) _ _

/-- What a byte reads as after a push (R230). -/
theorem State.readByte_push16 (s : State) (v b : Word) :
    (s.push16 v).readByte b
      = if b = s.sp - 2#16 + 1#16 then highByte v else if b = s.sp - 2#16 then lowByte v else s.readByte b :=
  State.readByte_writeWord s _ _ _

theorem State.push16_wf {s : State} (h : Memory.wf s.mem) (v : Word) : Memory.wf (s.push16 v).mem :=
  State.writeWord_wf h _ _

end Sys2Proof.Machine
end

