-- ==== Sys2Proof/Laws/State.lean ====
section
/-! SUPPORT. One lemma per field per update of the state, each tagged simp, so that no later proof unfolds a record update.
A field an update writes is stated with its new value. -/

namespace Sys2Proof.Machine

/-! ## writeByte -/

@[simp] theorem State.writeByte_regs (s : State) (a : Word) (v : Byte) :
    (s.writeByte a v).regs = s.regs := rfl
@[simp] theorem State.writeByte_pc (s : State) (a : Word) (v : Byte) :
    (s.writeByte a v).pc = s.pc := rfl
@[simp] theorem State.writeByte_sp (s : State) (a : Word) (v : Byte) :
    (s.writeByte a v).sp = s.sp := rfl
@[simp] theorem State.writeByte_flags (s : State) (a : Word) (v : Byte) :
    (s.writeByte a v).flags = s.flags := rfl
@[simp] theorem State.writeByte_interruptsEnabled (s : State) (a : Word) (v : Byte) :
    (s.writeByte a v).interruptsEnabled = s.interruptsEnabled := rfl
@[simp] theorem State.writeByte_halted (s : State) (a : Word) (v : Byte) :
    (s.writeByte a v).halted = s.halted := rfl
@[simp] theorem State.writeByte_eiPending (s : State) (a : Word) (v : Byte) :
    (s.writeByte a v).eiPending = s.eiPending := rfl
@[simp] theorem State.writeByte_fault (s : State) (a : Word) (v : Byte) :
    (s.writeByte a v).fault = s.fault := rfl
@[simp] theorem State.writeByte_mem (s : State) (a : Word) (v : Byte) :
    (s.writeByte a v).mem = Memory.write s.mem a.toNat v := rfl
@[simp] theorem State.writeByte_io (s : State) (a : Word) (v : Byte) :
    (s.writeByte a v).io = s.io := rfl
@[simp] theorem State.writeByte_params (s : State) (a : Word) (v : Byte) :
    (s.writeByte a v).params = s.params := rfl
@[simp] theorem State.writeByte_draws (s : State) (a : Word) (v : Byte) :
    (s.writeByte a v).draws = s.draws := rfl

/-! ## writeWord -/

@[simp] theorem State.writeWord_regs (s : State) (a v : Word) :
    (s.writeWord a v).regs = s.regs := rfl
@[simp] theorem State.writeWord_pc (s : State) (a v : Word) :
    (s.writeWord a v).pc = s.pc := rfl
@[simp] theorem State.writeWord_sp (s : State) (a v : Word) :
    (s.writeWord a v).sp = s.sp := rfl
@[simp] theorem State.writeWord_flags (s : State) (a v : Word) :
    (s.writeWord a v).flags = s.flags := rfl
@[simp] theorem State.writeWord_interruptsEnabled (s : State) (a v : Word) :
    (s.writeWord a v).interruptsEnabled = s.interruptsEnabled := rfl
@[simp] theorem State.writeWord_halted (s : State) (a v : Word) :
    (s.writeWord a v).halted = s.halted := rfl
@[simp] theorem State.writeWord_eiPending (s : State) (a v : Word) :
    (s.writeWord a v).eiPending = s.eiPending := rfl
@[simp] theorem State.writeWord_fault (s : State) (a v : Word) :
    (s.writeWord a v).fault = s.fault := rfl
@[simp] theorem State.writeWord_mem (s : State) (a v : Word) :
    (s.writeWord a v).mem = Memory.write (Memory.write s.mem a.toNat (lowByte v)) (a + 1#16).toNat (highByte v) := rfl
@[simp] theorem State.writeWord_io (s : State) (a v : Word) :
    (s.writeWord a v).io = s.io := rfl
@[simp] theorem State.writeWord_params (s : State) (a v : Word) :
    (s.writeWord a v).params = s.params := rfl
@[simp] theorem State.writeWord_draws (s : State) (a v : Word) :
    (s.writeWord a v).draws = s.draws := rfl

/-! ## jump -/

@[simp] theorem State.jump_regs (s : State) (w : Word) :
    (s.jump w).regs = s.regs := rfl
@[simp] theorem State.jump_pc (s : State) (w : Word) :
    (s.jump w).pc = w := rfl
@[simp] theorem State.jump_sp (s : State) (w : Word) :
    (s.jump w).sp = s.sp := rfl
@[simp] theorem State.jump_flags (s : State) (w : Word) :
    (s.jump w).flags = s.flags := rfl
@[simp] theorem State.jump_interruptsEnabled (s : State) (w : Word) :
    (s.jump w).interruptsEnabled = s.interruptsEnabled := rfl
@[simp] theorem State.jump_halted (s : State) (w : Word) :
    (s.jump w).halted = s.halted := rfl
@[simp] theorem State.jump_eiPending (s : State) (w : Word) :
    (s.jump w).eiPending = s.eiPending := rfl
@[simp] theorem State.jump_fault (s : State) (w : Word) :
    (s.jump w).fault = s.fault := rfl
@[simp] theorem State.jump_mem (s : State) (w : Word) :
    (s.jump w).mem = s.mem := rfl
@[simp] theorem State.jump_io (s : State) (w : Word) :
    (s.jump w).io = s.io := rfl
@[simp] theorem State.jump_params (s : State) (w : Word) :
    (s.jump w).params = s.params := rfl
@[simp] theorem State.jump_draws (s : State) (w : Word) :
    (s.jump w).draws = s.draws := rfl

/-! ## advance -/

@[simp] theorem State.advance_regs (s : State) (n : Nat) :
    (s.advance n).regs = s.regs := rfl
@[simp] theorem State.advance_pc (s : State) (n : Nat) :
    (s.advance n).pc = s.pc + BitVec.ofNat 16 n := rfl
@[simp] theorem State.advance_sp (s : State) (n : Nat) :
    (s.advance n).sp = s.sp := rfl
@[simp] theorem State.advance_flags (s : State) (n : Nat) :
    (s.advance n).flags = s.flags := rfl
@[simp] theorem State.advance_interruptsEnabled (s : State) (n : Nat) :
    (s.advance n).interruptsEnabled = s.interruptsEnabled := rfl
@[simp] theorem State.advance_halted (s : State) (n : Nat) :
    (s.advance n).halted = s.halted := rfl
@[simp] theorem State.advance_eiPending (s : State) (n : Nat) :
    (s.advance n).eiPending = s.eiPending := rfl
@[simp] theorem State.advance_fault (s : State) (n : Nat) :
    (s.advance n).fault = s.fault := rfl
@[simp] theorem State.advance_mem (s : State) (n : Nat) :
    (s.advance n).mem = s.mem := rfl
@[simp] theorem State.advance_io (s : State) (n : Nat) :
    (s.advance n).io = s.io := rfl
@[simp] theorem State.advance_params (s : State) (n : Nat) :
    (s.advance n).params = s.params := rfl
@[simp] theorem State.advance_draws (s : State) (n : Nat) :
    (s.advance n).draws = s.draws := rfl

/-! ## push16 -/

@[simp] theorem State.push16_regs (s : State) (v : Word) :
    (s.push16 v).regs = s.regs := rfl
@[simp] theorem State.push16_pc (s : State) (v : Word) :
    (s.push16 v).pc = s.pc := rfl
@[simp] theorem State.push16_sp (s : State) (v : Word) :
    (s.push16 v).sp = s.sp - 2#16 := rfl
@[simp] theorem State.push16_flags (s : State) (v : Word) :
    (s.push16 v).flags = s.flags := rfl
@[simp] theorem State.push16_interruptsEnabled (s : State) (v : Word) :
    (s.push16 v).interruptsEnabled = s.interruptsEnabled := rfl
@[simp] theorem State.push16_halted (s : State) (v : Word) :
    (s.push16 v).halted = s.halted := rfl
@[simp] theorem State.push16_eiPending (s : State) (v : Word) :
    (s.push16 v).eiPending = s.eiPending := rfl
@[simp] theorem State.push16_fault (s : State) (v : Word) :
    (s.push16 v).fault = s.fault := rfl
@[simp] theorem State.push16_mem (s : State) (v : Word) :
    (s.push16 v).mem = (s.writeWord (s.sp - 2#16) v).mem := rfl
@[simp] theorem State.push16_io (s : State) (v : Word) :
    (s.push16 v).io = s.io := rfl
@[simp] theorem State.push16_params (s : State) (v : Word) :
    (s.push16 v).params = s.params := rfl
@[simp] theorem State.push16_draws (s : State) (v : Word) :
    (s.push16 v).draws = s.draws := rfl

/-! ## drop16 -/

@[simp] theorem State.drop16_regs (s : State) :
    (s.drop16).regs = s.regs := rfl
@[simp] theorem State.drop16_pc (s : State) :
    (s.drop16).pc = s.pc := rfl
@[simp] theorem State.drop16_sp (s : State) :
    (s.drop16).sp = s.sp + 2#16 := rfl
@[simp] theorem State.drop16_flags (s : State) :
    (s.drop16).flags = s.flags := rfl
@[simp] theorem State.drop16_interruptsEnabled (s : State) :
    (s.drop16).interruptsEnabled = s.interruptsEnabled := rfl
@[simp] theorem State.drop16_halted (s : State) :
    (s.drop16).halted = s.halted := rfl
@[simp] theorem State.drop16_eiPending (s : State) :
    (s.drop16).eiPending = s.eiPending := rfl
@[simp] theorem State.drop16_fault (s : State) :
    (s.drop16).fault = s.fault := rfl
@[simp] theorem State.drop16_mem (s : State) :
    (s.drop16).mem = s.mem := rfl
@[simp] theorem State.drop16_io (s : State) :
    (s.drop16).io = s.io := rfl
@[simp] theorem State.drop16_params (s : State) :
    (s.drop16).params = s.params := rfl
@[simp] theorem State.drop16_draws (s : State) :
    (s.drop16).draws = s.draws := rfl

/-! ## popPc -/

@[simp] theorem State.popPc_regs (s : State) :
    (s.popPc).regs = s.regs := rfl
@[simp] theorem State.popPc_pc (s : State) :
    (s.popPc).pc = s.top16 := rfl
@[simp] theorem State.popPc_sp (s : State) :
    (s.popPc).sp = s.sp + 2#16 := rfl
@[simp] theorem State.popPc_flags (s : State) :
    (s.popPc).flags = s.flags := rfl
@[simp] theorem State.popPc_interruptsEnabled (s : State) :
    (s.popPc).interruptsEnabled = s.interruptsEnabled := rfl
@[simp] theorem State.popPc_halted (s : State) :
    (s.popPc).halted = s.halted := rfl
@[simp] theorem State.popPc_eiPending (s : State) :
    (s.popPc).eiPending = s.eiPending := rfl
@[simp] theorem State.popPc_fault (s : State) :
    (s.popPc).fault = s.fault := rfl
@[simp] theorem State.popPc_mem (s : State) :
    (s.popPc).mem = s.mem := rfl
@[simp] theorem State.popPc_io (s : State) :
    (s.popPc).io = s.io := rfl
@[simp] theorem State.popPc_params (s : State) :
    (s.popPc).params = s.params := rfl
@[simp] theorem State.popPc_draws (s : State) :
    (s.popPc).draws = s.draws := rfl

/-! ## callTo -/

@[simp] theorem State.callTo_regs (s : State) (n : Nat) (w : Word) :
    (s.callTo n w).regs = s.regs := rfl
@[simp] theorem State.callTo_pc (s : State) (n : Nat) (w : Word) :
    (s.callTo n w).pc = w := rfl
@[simp] theorem State.callTo_sp (s : State) (n : Nat) (w : Word) :
    (s.callTo n w).sp = s.sp - 2#16 := rfl
@[simp] theorem State.callTo_flags (s : State) (n : Nat) (w : Word) :
    (s.callTo n w).flags = s.flags := rfl
@[simp] theorem State.callTo_interruptsEnabled (s : State) (n : Nat) (w : Word) :
    (s.callTo n w).interruptsEnabled = s.interruptsEnabled := rfl
@[simp] theorem State.callTo_halted (s : State) (n : Nat) (w : Word) :
    (s.callTo n w).halted = s.halted := rfl
@[simp] theorem State.callTo_eiPending (s : State) (n : Nat) (w : Word) :
    (s.callTo n w).eiPending = s.eiPending := rfl
@[simp] theorem State.callTo_fault (s : State) (n : Nat) (w : Word) :
    (s.callTo n w).fault = s.fault := rfl
@[simp] theorem State.callTo_mem (s : State) (n : Nat) (w : Word) :
    (s.callTo n w).mem = (s.push16 (s.pc + BitVec.ofNat 16 n)).mem := rfl
@[simp] theorem State.callTo_io (s : State) (n : Nat) (w : Word) :
    (s.callTo n w).io = s.io := rfl
@[simp] theorem State.callTo_params (s : State) (n : Nat) (w : Word) :
    (s.callTo n w).params = s.params := rfl
@[simp] theorem State.callTo_draws (s : State) (n : Nat) (w : Word) :
    (s.callTo n w).draws = s.draws := rfl

/-! ## enterInterrupt -/

@[simp] theorem State.enterInterrupt_regs (s : State) (n : Nat) :
    (s.enterInterrupt n).regs = s.regs := rfl
@[simp] theorem State.enterInterrupt_pc (s : State) (n : Nat) :
    (s.enterInterrupt n).pc = vector n := rfl
@[simp] theorem State.enterInterrupt_sp (s : State) (n : Nat) :
    (s.enterInterrupt n).sp = s.sp - 2#16 := rfl
@[simp] theorem State.enterInterrupt_flags (s : State) (n : Nat) :
    (s.enterInterrupt n).flags = s.flags := rfl
@[simp] theorem State.enterInterrupt_interruptsEnabled (s : State) (n : Nat) :
    (s.enterInterrupt n).interruptsEnabled = false := rfl
@[simp] theorem State.enterInterrupt_halted (s : State) (n : Nat) :
    (s.enterInterrupt n).halted = false := rfl
@[simp] theorem State.enterInterrupt_eiPending (s : State) (n : Nat) :
    (s.enterInterrupt n).eiPending = false := rfl
@[simp] theorem State.enterInterrupt_fault (s : State) (n : Nat) :
    (s.enterInterrupt n).fault = s.fault := rfl
@[simp] theorem State.enterInterrupt_mem (s : State) (n : Nat) :
    (s.enterInterrupt n).mem = (s.push16 s.pc).mem := rfl
@[simp] theorem State.enterInterrupt_io (s : State) (n : Nat) :
    (s.enterInterrupt n).io = s.io := rfl
@[simp] theorem State.enterInterrupt_params (s : State) (n : Nat) :
    (s.enterInterrupt n).params = s.params := rfl
@[simp] theorem State.enterInterrupt_draws (s : State) (n : Nat) :
    (s.enterInterrupt n).draws = s.draws := rfl

/-! ## recordUnimplemented -/

@[simp] theorem State.recordUnimplemented_regs (s : State) (op : Byte) :
    (s.recordUnimplemented op).regs = s.regs := rfl
@[simp] theorem State.recordUnimplemented_pc (s : State) (op : Byte) :
    (s.recordUnimplemented op).pc = s.pc := rfl
@[simp] theorem State.recordUnimplemented_sp (s : State) (op : Byte) :
    (s.recordUnimplemented op).sp = s.sp := rfl
@[simp] theorem State.recordUnimplemented_flags (s : State) (op : Byte) :
    (s.recordUnimplemented op).flags = s.flags := rfl
@[simp] theorem State.recordUnimplemented_interruptsEnabled (s : State) (op : Byte) :
    (s.recordUnimplemented op).interruptsEnabled = s.interruptsEnabled := rfl
@[simp] theorem State.recordUnimplemented_halted (s : State) (op : Byte) :
    (s.recordUnimplemented op).halted = s.halted := rfl
@[simp] theorem State.recordUnimplemented_eiPending (s : State) (op : Byte) :
    (s.recordUnimplemented op).eiPending = s.eiPending := rfl
@[simp] theorem State.recordUnimplemented_fault (s : State) (op : Byte) :
    (s.recordUnimplemented op).fault = some { op := op, addr := s.pc } := rfl
@[simp] theorem State.recordUnimplemented_mem (s : State) (op : Byte) :
    (s.recordUnimplemented op).mem = s.mem := rfl
@[simp] theorem State.recordUnimplemented_io (s : State) (op : Byte) :
    (s.recordUnimplemented op).io = s.io := rfl
@[simp] theorem State.recordUnimplemented_params (s : State) (op : Byte) :
    (s.recordUnimplemented op).params = s.params := rfl
@[simp] theorem State.recordUnimplemented_draws (s : State) (op : Byte) :
    (s.recordUnimplemented op).draws = s.draws := rfl

/-! ## writeReg: the general registers and memory only -/

@[simp] theorem State.writeReg_pc (s : State) (r : Reg8) (v : Byte) :
    (s.writeReg r v).pc = s.pc := by cases r <;> rfl
@[simp] theorem State.writeReg_sp (s : State) (r : Reg8) (v : Byte) :
    (s.writeReg r v).sp = s.sp := by cases r <;> rfl
@[simp] theorem State.writeReg_flags (s : State) (r : Reg8) (v : Byte) :
    (s.writeReg r v).flags = s.flags := by cases r <;> rfl
@[simp] theorem State.writeReg_interruptsEnabled (s : State) (r : Reg8) (v : Byte) :
    (s.writeReg r v).interruptsEnabled = s.interruptsEnabled := by cases r <;> rfl
@[simp] theorem State.writeReg_halted (s : State) (r : Reg8) (v : Byte) :
    (s.writeReg r v).halted = s.halted := by cases r <;> rfl
@[simp] theorem State.writeReg_eiPending (s : State) (r : Reg8) (v : Byte) :
    (s.writeReg r v).eiPending = s.eiPending := by cases r <;> rfl
@[simp] theorem State.writeReg_fault (s : State) (r : Reg8) (v : Byte) :
    (s.writeReg r v).fault = s.fault := by cases r <;> rfl
@[simp] theorem State.writeReg_io (s : State) (r : Reg8) (v : Byte) :
    (s.writeReg r v).io = s.io := by cases r <;> rfl
@[simp] theorem State.writeReg_params (s : State) (r : Reg8) (v : Byte) :
    (s.writeReg r v).params = s.params := by cases r <;> rfl
@[simp] theorem State.writeReg_draws (s : State) (r : Reg8) (v : Byte) :
    (s.writeReg r v).draws = s.draws := by cases r <;> rfl

/-! ## writePair: the general registers and SP only -/

@[simp] theorem State.writePair_pc (s : State) (p : RegPair) (v : Word) :
    (s.writePair p v).pc = s.pc := by cases p <;> rfl
@[simp] theorem State.writePair_flags (s : State) (p : RegPair) (v : Word) :
    (s.writePair p v).flags = s.flags := by cases p <;> rfl
@[simp] theorem State.writePair_interruptsEnabled (s : State) (p : RegPair) (v : Word) :
    (s.writePair p v).interruptsEnabled = s.interruptsEnabled := by cases p <;> rfl
@[simp] theorem State.writePair_halted (s : State) (p : RegPair) (v : Word) :
    (s.writePair p v).halted = s.halted := by cases p <;> rfl
@[simp] theorem State.writePair_eiPending (s : State) (p : RegPair) (v : Word) :
    (s.writePair p v).eiPending = s.eiPending := by cases p <;> rfl
@[simp] theorem State.writePair_fault (s : State) (p : RegPair) (v : Word) :
    (s.writePair p v).fault = s.fault := by cases p <;> rfl
@[simp] theorem State.writePair_mem (s : State) (p : RegPair) (v : Word) :
    (s.writePair p v).mem = s.mem := by cases p <;> rfl
@[simp] theorem State.writePair_io (s : State) (p : RegPair) (v : Word) :
    (s.writePair p v).io = s.io := by cases p <;> rfl
@[simp] theorem State.writePair_params (s : State) (p : RegPair) (v : Word) :
    (s.writePair p v).params = s.params := by cases p <;> rfl
@[simp] theorem State.writePair_draws (s : State) (p : RegPair) (v : Word) :
    (s.writePair p v).draws = s.draws := by cases p <;> rfl

/-! ## writeStackPair: the general registers and the flags only -/

@[simp] theorem State.writeStackPair_pc (s : State) (p : StackPair) (v : Word) :
    (s.writeStackPair p v).pc = s.pc := by cases p <;> rfl
@[simp] theorem State.writeStackPair_sp (s : State) (p : StackPair) (v : Word) :
    (s.writeStackPair p v).sp = s.sp := by cases p <;> rfl
@[simp] theorem State.writeStackPair_interruptsEnabled (s : State) (p : StackPair) (v : Word) :
    (s.writeStackPair p v).interruptsEnabled = s.interruptsEnabled := by cases p <;> rfl
@[simp] theorem State.writeStackPair_halted (s : State) (p : StackPair) (v : Word) :
    (s.writeStackPair p v).halted = s.halted := by cases p <;> rfl
@[simp] theorem State.writeStackPair_eiPending (s : State) (p : StackPair) (v : Word) :
    (s.writeStackPair p v).eiPending = s.eiPending := by cases p <;> rfl
@[simp] theorem State.writeStackPair_fault (s : State) (p : StackPair) (v : Word) :
    (s.writeStackPair p v).fault = s.fault := by cases p <;> rfl
@[simp] theorem State.writeStackPair_mem (s : State) (p : StackPair) (v : Word) :
    (s.writeStackPair p v).mem = s.mem := by cases p <;> rfl
@[simp] theorem State.writeStackPair_io (s : State) (p : StackPair) (v : Word) :
    (s.writeStackPair p v).io = s.io := by cases p <;> rfl
@[simp] theorem State.writeStackPair_params (s : State) (p : StackPair) (v : Word) :
    (s.writeStackPair p v).params = s.params := by cases p <;> rfl
@[simp] theorem State.writeStackPair_draws (s : State) (p : StackPair) (v : Word) :
    (s.writeStackPair p v).draws = s.draws := by cases p <;> rfl

/-! ## accumulate -/

@[simp] theorem State.accumulate_regs (s : State) (r : AluOut) :
    (s.accumulate r).regs = { s.regs with a := r.res } := rfl
@[simp] theorem State.accumulate_pc (s : State) (r : AluOut) :
    (s.accumulate r).pc = s.pc := rfl
@[simp] theorem State.accumulate_sp (s : State) (r : AluOut) :
    (s.accumulate r).sp = s.sp := rfl
@[simp] theorem State.accumulate_flags (s : State) (r : AluOut) :
    (s.accumulate r).flags = s.flags.arith r := rfl
@[simp] theorem State.accumulate_interruptsEnabled (s : State) (r : AluOut) :
    (s.accumulate r).interruptsEnabled = s.interruptsEnabled := rfl
@[simp] theorem State.accumulate_halted (s : State) (r : AluOut) :
    (s.accumulate r).halted = s.halted := rfl
@[simp] theorem State.accumulate_eiPending (s : State) (r : AluOut) :
    (s.accumulate r).eiPending = s.eiPending := rfl
@[simp] theorem State.accumulate_fault (s : State) (r : AluOut) :
    (s.accumulate r).fault = s.fault := rfl
@[simp] theorem State.accumulate_mem (s : State) (r : AluOut) :
    (s.accumulate r).mem = s.mem := rfl
@[simp] theorem State.accumulate_io (s : State) (r : AluOut) :
    (s.accumulate r).io = s.io := rfl
@[simp] theorem State.accumulate_params (s : State) (r : AluOut) :
    (s.accumulate r).params = s.params := rfl
@[simp] theorem State.accumulate_draws (s : State) (r : AluOut) :
    (s.accumulate r).draws = s.draws := rfl

/-! ## accumulateLogic -/

@[simp] theorem State.accumulateLogic_regs (s : State) (v : Byte) :
    (s.accumulateLogic v).regs = { s.regs with a := v } := rfl
@[simp] theorem State.accumulateLogic_pc (s : State) (v : Byte) :
    (s.accumulateLogic v).pc = s.pc := rfl
@[simp] theorem State.accumulateLogic_sp (s : State) (v : Byte) :
    (s.accumulateLogic v).sp = s.sp := rfl
@[simp] theorem State.accumulateLogic_flags (s : State) (v : Byte) :
    (s.accumulateLogic v).flags = s.flags.logic v := rfl
@[simp] theorem State.accumulateLogic_interruptsEnabled (s : State) (v : Byte) :
    (s.accumulateLogic v).interruptsEnabled = s.interruptsEnabled := rfl
@[simp] theorem State.accumulateLogic_halted (s : State) (v : Byte) :
    (s.accumulateLogic v).halted = s.halted := rfl
@[simp] theorem State.accumulateLogic_eiPending (s : State) (v : Byte) :
    (s.accumulateLogic v).eiPending = s.eiPending := rfl
@[simp] theorem State.accumulateLogic_fault (s : State) (v : Byte) :
    (s.accumulateLogic v).fault = s.fault := rfl
@[simp] theorem State.accumulateLogic_mem (s : State) (v : Byte) :
    (s.accumulateLogic v).mem = s.mem := rfl
@[simp] theorem State.accumulateLogic_io (s : State) (v : Byte) :
    (s.accumulateLogic v).io = s.io := rfl
@[simp] theorem State.accumulateLogic_params (s : State) (v : Byte) :
    (s.accumulateLogic v).params = s.params := rfl
@[simp] theorem State.accumulateLogic_draws (s : State) (v : Byte) :
    (s.accumulateLogic v).draws = s.draws := rfl

/-! ## aluApply: A and the flags only -/

@[simp] theorem State.aluApply_pc (s : State) (op : AluOp) (v : Byte) :
    (aluApply op v s).pc = s.pc := by cases op <;> rfl
@[simp] theorem State.aluApply_sp (s : State) (op : AluOp) (v : Byte) :
    (aluApply op v s).sp = s.sp := by cases op <;> rfl
@[simp] theorem State.aluApply_interruptsEnabled (s : State) (op : AluOp) (v : Byte) :
    (aluApply op v s).interruptsEnabled = s.interruptsEnabled := by cases op <;> rfl
@[simp] theorem State.aluApply_halted (s : State) (op : AluOp) (v : Byte) :
    (aluApply op v s).halted = s.halted := by cases op <;> rfl
@[simp] theorem State.aluApply_eiPending (s : State) (op : AluOp) (v : Byte) :
    (aluApply op v s).eiPending = s.eiPending := by cases op <;> rfl
@[simp] theorem State.aluApply_fault (s : State) (op : AluOp) (v : Byte) :
    (aluApply op v s).fault = s.fault := by cases op <;> rfl
@[simp] theorem State.aluApply_mem (s : State) (op : AluOp) (v : Byte) :
    (aluApply op v s).mem = s.mem := by cases op <;> rfl
@[simp] theorem State.aluApply_io (s : State) (op : AluOp) (v : Byte) :
    (aluApply op v s).io = s.io := by cases op <;> rfl
@[simp] theorem State.aluApply_params (s : State) (op : AluOp) (v : Byte) :
    (aluApply op v s).params = s.params := by cases op <;> rfl
@[simp] theorem State.aluApply_draws (s : State) (op : AluOp) (v : Byte) :
    (aluApply op v s).draws = s.draws := by cases op <;> rfl

/-! ## setCarry -/

@[simp] theorem State.setCarry_regs (s : State) (b : Bool) :
    (s.setCarry b).regs = s.regs := rfl
@[simp] theorem State.setCarry_pc (s : State) (b : Bool) :
    (s.setCarry b).pc = s.pc := rfl
@[simp] theorem State.setCarry_sp (s : State) (b : Bool) :
    (s.setCarry b).sp = s.sp := rfl
@[simp] theorem State.setCarry_flags (s : State) (b : Bool) :
    (s.setCarry b).flags = { s.flags with carry := b } := rfl
@[simp] theorem State.setCarry_interruptsEnabled (s : State) (b : Bool) :
    (s.setCarry b).interruptsEnabled = s.interruptsEnabled := rfl
@[simp] theorem State.setCarry_halted (s : State) (b : Bool) :
    (s.setCarry b).halted = s.halted := rfl
@[simp] theorem State.setCarry_eiPending (s : State) (b : Bool) :
    (s.setCarry b).eiPending = s.eiPending := rfl
@[simp] theorem State.setCarry_fault (s : State) (b : Bool) :
    (s.setCarry b).fault = s.fault := rfl
@[simp] theorem State.setCarry_mem (s : State) (b : Bool) :
    (s.setCarry b).mem = s.mem := rfl
@[simp] theorem State.setCarry_io (s : State) (b : Bool) :
    (s.setCarry b).io = s.io := rfl
@[simp] theorem State.setCarry_params (s : State) (b : Bool) :
    (s.setCarry b).params = s.params := rfl
@[simp] theorem State.setCarry_draws (s : State) (b : Bool) :
    (s.setCarry b).draws = s.draws := rfl

/-! ## portOut: the shift hardware only -/

@[simp] theorem State.portOut_regs (s : State) (p v : Byte) :
    (s.portOut p v).regs = s.regs := by unfold State.portOut; split <;> rfl
@[simp] theorem State.portOut_pc (s : State) (p v : Byte) :
    (s.portOut p v).pc = s.pc := by unfold State.portOut; split <;> rfl
@[simp] theorem State.portOut_sp (s : State) (p v : Byte) :
    (s.portOut p v).sp = s.sp := by unfold State.portOut; split <;> rfl
@[simp] theorem State.portOut_flags (s : State) (p v : Byte) :
    (s.portOut p v).flags = s.flags := by unfold State.portOut; split <;> rfl
@[simp] theorem State.portOut_interruptsEnabled (s : State) (p v : Byte) :
    (s.portOut p v).interruptsEnabled = s.interruptsEnabled := by unfold State.portOut; split <;> rfl
@[simp] theorem State.portOut_halted (s : State) (p v : Byte) :
    (s.portOut p v).halted = s.halted := by unfold State.portOut; split <;> rfl
@[simp] theorem State.portOut_eiPending (s : State) (p v : Byte) :
    (s.portOut p v).eiPending = s.eiPending := by unfold State.portOut; split <;> rfl
@[simp] theorem State.portOut_fault (s : State) (p v : Byte) :
    (s.portOut p v).fault = s.fault := by unfold State.portOut; split <;> rfl
@[simp] theorem State.portOut_mem (s : State) (p v : Byte) :
    (s.portOut p v).mem = s.mem := by unfold State.portOut; split <;> rfl
@[simp] theorem State.portOut_params (s : State) (p v : Byte) :
    (s.portOut p v).params = s.params := by unfold State.portOut; split <;> rfl
@[simp] theorem State.portOut_draws (s : State) (p v : Byte) :
    (s.portOut p v).draws = s.draws := by unfold State.portOut; split <;> rfl

/-! ## countDraw: the free-value counter only -/

@[simp] theorem State.countDraw_regs (s : State) (p : Byte) :
    (s.countDraw p).regs = s.regs := by unfold State.countDraw; split <;> rfl
@[simp] theorem State.countDraw_pc (s : State) (p : Byte) :
    (s.countDraw p).pc = s.pc := by unfold State.countDraw; split <;> rfl
@[simp] theorem State.countDraw_sp (s : State) (p : Byte) :
    (s.countDraw p).sp = s.sp := by unfold State.countDraw; split <;> rfl
@[simp] theorem State.countDraw_flags (s : State) (p : Byte) :
    (s.countDraw p).flags = s.flags := by unfold State.countDraw; split <;> rfl
@[simp] theorem State.countDraw_interruptsEnabled (s : State) (p : Byte) :
    (s.countDraw p).interruptsEnabled = s.interruptsEnabled := by unfold State.countDraw; split <;> rfl
@[simp] theorem State.countDraw_halted (s : State) (p : Byte) :
    (s.countDraw p).halted = s.halted := by unfold State.countDraw; split <;> rfl
@[simp] theorem State.countDraw_eiPending (s : State) (p : Byte) :
    (s.countDraw p).eiPending = s.eiPending := by unfold State.countDraw; split <;> rfl
@[simp] theorem State.countDraw_fault (s : State) (p : Byte) :
    (s.countDraw p).fault = s.fault := by unfold State.countDraw; split <;> rfl
@[simp] theorem State.countDraw_mem (s : State) (p : Byte) :
    (s.countDraw p).mem = s.mem := by unfold State.countDraw; split <;> rfl
@[simp] theorem State.countDraw_io (s : State) (p : Byte) :
    (s.countDraw p).io = s.io := by unfold State.countDraw; split <;> rfl
@[simp] theorem State.countDraw_params (s : State) (p : Byte) :
    (s.countDraw p).params = s.params := by unfold State.countDraw; split <;> rfl

/-! ## settleEi: IE and ei_pending only -/

@[simp] theorem State.settleEi_regs (s : State) (op : Byte) :
    (s.settleEi op).regs = s.regs := by unfold State.settleEi; split <;> rfl
@[simp] theorem State.settleEi_pc (s : State) (op : Byte) :
    (s.settleEi op).pc = s.pc := by unfold State.settleEi; split <;> rfl
@[simp] theorem State.settleEi_sp (s : State) (op : Byte) :
    (s.settleEi op).sp = s.sp := by unfold State.settleEi; split <;> rfl
@[simp] theorem State.settleEi_flags (s : State) (op : Byte) :
    (s.settleEi op).flags = s.flags := by unfold State.settleEi; split <;> rfl
@[simp] theorem State.settleEi_halted (s : State) (op : Byte) :
    (s.settleEi op).halted = s.halted := by unfold State.settleEi; split <;> rfl
@[simp] theorem State.settleEi_fault (s : State) (op : Byte) :
    (s.settleEi op).fault = s.fault := by unfold State.settleEi; split <;> rfl
@[simp] theorem State.settleEi_mem (s : State) (op : Byte) :
    (s.settleEi op).mem = s.mem := by unfold State.settleEi; split <;> rfl
@[simp] theorem State.settleEi_io (s : State) (op : Byte) :
    (s.settleEi op).io = s.io := by unfold State.settleEi; split <;> rfl
@[simp] theorem State.settleEi_params (s : State) (op : Byte) :
    (s.settleEi op).params = s.params := by unfold State.settleEi; split <;> rfl
@[simp] theorem State.settleEi_draws (s : State) (op : Byte) :
    (s.settleEi op).draws = s.draws := by unfold State.settleEi; split <;> rfl

/-! ## setInput: the input latches only -/

@[simp] theorem State.setInput_regs (s : State) (k : Nat) (v : Byte) :
    (s.setInput k v).regs = s.regs := by unfold State.setInput; split <;> rfl
@[simp] theorem State.setInput_pc (s : State) (k : Nat) (v : Byte) :
    (s.setInput k v).pc = s.pc := by unfold State.setInput; split <;> rfl
@[simp] theorem State.setInput_sp (s : State) (k : Nat) (v : Byte) :
    (s.setInput k v).sp = s.sp := by unfold State.setInput; split <;> rfl
@[simp] theorem State.setInput_flags (s : State) (k : Nat) (v : Byte) :
    (s.setInput k v).flags = s.flags := by unfold State.setInput; split <;> rfl
@[simp] theorem State.setInput_interruptsEnabled (s : State) (k : Nat) (v : Byte) :
    (s.setInput k v).interruptsEnabled = s.interruptsEnabled := by unfold State.setInput; split <;> rfl
@[simp] theorem State.setInput_halted (s : State) (k : Nat) (v : Byte) :
    (s.setInput k v).halted = s.halted := by unfold State.setInput; split <;> rfl
@[simp] theorem State.setInput_eiPending (s : State) (k : Nat) (v : Byte) :
    (s.setInput k v).eiPending = s.eiPending := by unfold State.setInput; split <;> rfl
@[simp] theorem State.setInput_fault (s : State) (k : Nat) (v : Byte) :
    (s.setInput k v).fault = s.fault := by unfold State.setInput; split <;> rfl
@[simp] theorem State.setInput_mem (s : State) (k : Nat) (v : Byte) :
    (s.setInput k v).mem = s.mem := by unfold State.setInput; split <;> rfl
@[simp] theorem State.setInput_params (s : State) (k : Nat) (v : Byte) :
    (s.setInput k v).params = s.params := by unfold State.setInput; split <;> rfl
@[simp] theorem State.setInput_draws (s : State) (k : Nat) (v : Byte) :
    (s.setInput k v).draws = s.draws := by unfold State.setInput; split <;> rfl

/-! ## Reads of one byte after an update that leaves memory alone -/

@[simp] theorem State.readByte_jump (s : State) (w : Word) (x : Word) :
    (s.jump w).readByte x = s.readByte x := rfl
@[simp] theorem State.readByte_advance (s : State) (n : Nat) (x : Word) :
    (s.advance n).readByte x = s.readByte x := rfl
@[simp] theorem State.readByte_drop16 (s : State) (x : Word) :
    (s.drop16).readByte x = s.readByte x := rfl
@[simp] theorem State.readByte_popPc (s : State) (x : Word) :
    (s.popPc).readByte x = s.readByte x := rfl
@[simp] theorem State.readByte_writePair (s : State) (p : RegPair) (v : Word) (x : Word) :
    (s.writePair p v).readByte x = s.readByte x := by cases p <;> rfl
@[simp] theorem State.readByte_writeStackPair (s : State) (p : StackPair) (v : Word) (x : Word) :
    (s.writeStackPair p v).readByte x = s.readByte x := by cases p <;> rfl
@[simp] theorem State.readByte_aluApply (s : State) (op : AluOp) (v : Byte) (x : Word) :
    (aluApply op v s).readByte x = s.readByte x := by cases op <;> rfl

end Sys2Proof.Machine
end

