-- ==== Sys2Proof/Laws/Ops.lean ====
section
/-! SUPPORT. What each shared operation does, said once: operands, pairs, push and pop, interrupt request, host write, ports. -/

namespace Sys2Proof.Machine

/-! ## The 8-bit operand (10_state.md R33) -/

@[simp] theorem State.readReg_writeReg_same (s : State) (r : Reg8) (v : Byte) : (s.writeReg r v).readReg r = v := by
  cases r <;> first | rfl | exact State.readByte_writeByte_same _ _ _

theorem State.readReg_writeReg_ne (s : State) (r x : Reg8) (v : Byte) (h : x ≠ r) (hm : x ≠ .m) :
    (s.writeReg r v).readReg x = s.readReg x := by
  cases r <;> cases x <;> first | rfl | exact absurd rfl h | exact absurd rfl hm

/-- Writing an operand changes no byte of memory but, for M, the one at HL. -/
theorem State.readByte_writeReg (s : State) (r : Reg8) (v : Byte) (a : Word) (h : ¬(r = .m ∧ a = s.hl)) :
    (s.writeReg r v).readByte a = s.readByte a := by
  cases r <;> first | rfl | exact State.readByte_writeByte_ne _ _ _ _ (fun e => h ⟨rfl, e⟩)

/-- Writing an operand writes registers and memory, nothing else. -/
theorem State.writeReg_eq (s : State) (r : Reg8) (v : Byte) :
    s.writeReg r v = { s with regs := (s.writeReg r v).regs, mem := (s.writeReg r v).mem } := by
  cases r <;> rfl

theorem State.writeReg_wf {s : State} (h : Memory.wf s.mem) (r : Reg8) (v : Byte) : Memory.wf (s.writeReg r v).mem := by
  cases r <;> first | exact h | exact State.writeByte_wf h _ _

/-! ## Register pairs (10_state.md R34, R35) -/

@[simp] theorem State.readPair_writePair_same (s : State) (p : RegPair) (v : Word) : (s.writePair p v).readPair p = v := by
  cases p <;> first | rfl | exact concat16_halves _

theorem State.readPair_writePair_ne (s : State) (p q : RegPair) (v : Word) (h : q ≠ p) :
    (s.writePair p v).readPair q = s.readPair q := by
  cases p <;> cases q <;> first | rfl | exact absurd rfl h

/-- Writing a pair writes registers and SP, nothing else. -/
theorem State.writePair_eq (s : State) (p : RegPair) (v : Word) :
    s.writePair p v = { s with regs := (s.writePair p v).regs, sp := (s.writePair p v).sp } := by
  cases p <;> rfl

/-! ## Push and pop (43_stack_io_machine.md R230, R231) -/

/-- What a 16-bit write stored is what a 16-bit read of the same address gives, also where it wraps. -/
@[simp] theorem State.readWord_writeWord (s : State) (a v : Word) : (s.writeWord a v).readWord a = v := by
  rw [State.readWord, State.readByte_writeWord, State.readByte_writeWord, if_pos rfl, if_neg (next_address_ne _).symm,
    if_pos rfl, concat16_halves]

/-- A pop after a push gives the value pushed. -/
theorem State.top16_push16 (s : State) (v : Word) : (s.push16 v).top16 = v := State.readWord_writeWord s _ v

theorem State.drop16_push16_sp (s : State) (v : Word) : (s.push16 v).drop16.sp = s.sp := by
  change s.sp - 2#16 + 2#16 = s.sp
  bv_omega

/-! ## Interrupt request and host write (60_exceptions.md R290-R292, R306) -/

/-- Everything `raise_interrupt(n)` can do. -/
theorem State.requestInterrupt_cases (s : State) (n : Nat) :
    (s.fault = none ∧ s.interruptsEnabled = true ∧ s.requestInterrupt n = s.enterInterrupt n) ∨
    ((s.fault ≠ none ∨ s.interruptsEnabled = false) ∧ s.requestInterrupt n = s) := by
  cases hf : s.fault with
  | some r => exact .inr ⟨.inl (by simp), by simp [State.requestInterrupt, hf]⟩
  | none =>
    cases hi : s.interruptsEnabled with
    | true => exact .inl ⟨rfl, rfl, by simp [State.requestInterrupt, hf, hi]⟩
    | false => exact .inr ⟨.inr rfl, by simp [State.requestInterrupt, hf, hi]⟩

/-- A host write to a latch changes the three latches at most. -/
theorem State.setInput_eq (s : State) (k : Nat) (v : Byte) :
    s.setInput k v = { s with io := { s.io with
      inputPort0 := (s.setInput k v).io.inputPort0
      inputPort1 := (s.setInput k v).io.inputPort1
      inputPort2 := (s.setInput k v).io.inputPort2 } } := by
  unfold State.setInput; split <;> rfl

/-! ## Ports (44_arcade_io_shim.md R260-R267) -/

/-- `PortOut` by port: 2, 4, or no effect. -/
theorem State.portOut_cases (s : State) (p v : Byte) :
    (p = 2#8 ∧ s.portOut p v = { s with io := s.io.setOffset v }) ∨
    (p = 4#8 ∧ s.portOut p v = { s with io := s.io.shiftIn v }) ∨
    (p ≠ 2#8 ∧ p ≠ 4#8 ∧ s.portOut p v = s) := by
  by_cases h2 : p = 2#8
  · exact .inl ⟨h2, by rw [h2]; rfl⟩
  by_cases h4 : p = 4#8
  · exact .inr (.inl ⟨h4, by rw [h4]; rfl⟩)
  refine .inr (.inr ⟨h2, h4, ?_⟩)
  unfold State.portOut
  split
  · next h => exact absurd (BitVec.eq_of_toNat_eq h) h2
  · next h => exact absurd (BitVec.eq_of_toNat_eq h) h4
  · rfl

/-- A port in 4..255 gives the free value of this draw; a port in 0..3 draws none. -/
theorem State.portIn_unmapped (s : State) (p : Byte) (h : 4 ≤ p.toNat) :
    s.portIn p = Config.inUnmapped s.draws p ∧ s.countDraw p = { s with draws := s.draws + 1 } := by
  constructor
  · unfold State.portIn
    split <;> first | omega | rfl
  · rw [State.countDraw, if_neg (by omega)]

end Sys2Proof.Machine
end

