-- ==== Sys2Proof/Laws/PerInstr.lean ====
section
/-! SUPPORT. Families of per-instruction facts about the instruction as syntax. -/

namespace Sys2Proof.Laws.EncodeLength

/-- The encoding begins with an opcode byte, and has as many bytes as `opLength` gives for it (30_encoding.md R90). -/
def Statement (i : Instr) : Prop :=
  ∃ op rest, encode i = op :: rest ∧ opLength op = rest.length + 1

theorem nop : Statement .nop := ⟨_, _, rfl, rfl⟩
theorem lxiBC (w : Word) : Statement (.lxiBC w) := ⟨_, _, rfl, rfl⟩
theorem staxBC : Statement .staxBC := ⟨_, _, rfl, rfl⟩
theorem inxBC : Statement .inxBC := ⟨_, _, rfl, rfl⟩
theorem inrB : Statement .inrB := ⟨_, _, rfl, rfl⟩
theorem dcrB : Statement .dcrB := ⟨_, _, rfl, rfl⟩
theorem mviB (v : Byte) : Statement (.mviB v) := ⟨_, _, rfl, rfl⟩
theorem rlc : Statement .rlc := ⟨_, _, rfl, rfl⟩
theorem unimplemented08 : Statement .unimplemented08 := ⟨_, _, rfl, rfl⟩
theorem dadBC : Statement .dadBC := ⟨_, _, rfl, rfl⟩
theorem ldaxBC : Statement .ldaxBC := ⟨_, _, rfl, rfl⟩
theorem dcxBC : Statement .dcxBC := ⟨_, _, rfl, rfl⟩
theorem inrC : Statement .inrC := ⟨_, _, rfl, rfl⟩
theorem dcrC : Statement .dcrC := ⟨_, _, rfl, rfl⟩
theorem mviC (v : Byte) : Statement (.mviC v) := ⟨_, _, rfl, rfl⟩
theorem rrc : Statement .rrc := ⟨_, _, rfl, rfl⟩
theorem unimplemented10 : Statement .unimplemented10 := ⟨_, _, rfl, rfl⟩
theorem lxiDE (w : Word) : Statement (.lxiDE w) := ⟨_, _, rfl, rfl⟩
theorem staxDE : Statement .staxDE := ⟨_, _, rfl, rfl⟩
theorem inxDE : Statement .inxDE := ⟨_, _, rfl, rfl⟩
theorem inrD : Statement .inrD := ⟨_, _, rfl, rfl⟩
theorem dcrD : Statement .dcrD := ⟨_, _, rfl, rfl⟩
theorem mviD (v : Byte) : Statement (.mviD v) := ⟨_, _, rfl, rfl⟩
theorem ral : Statement .ral := ⟨_, _, rfl, rfl⟩
theorem unimplemented18 : Statement .unimplemented18 := ⟨_, _, rfl, rfl⟩
theorem dadDE : Statement .dadDE := ⟨_, _, rfl, rfl⟩
theorem ldaxDE : Statement .ldaxDE := ⟨_, _, rfl, rfl⟩
theorem dcxDE : Statement .dcxDE := ⟨_, _, rfl, rfl⟩
theorem inrE : Statement .inrE := ⟨_, _, rfl, rfl⟩
theorem dcrE : Statement .dcrE := ⟨_, _, rfl, rfl⟩
theorem mviE (v : Byte) : Statement (.mviE v) := ⟨_, _, rfl, rfl⟩
theorem rar : Statement .rar := ⟨_, _, rfl, rfl⟩
theorem unimplemented20 : Statement .unimplemented20 := ⟨_, _, rfl, rfl⟩
theorem lxiHL (w : Word) : Statement (.lxiHL w) := ⟨_, _, rfl, rfl⟩
theorem shld (w : Word) : Statement (.shld w) := ⟨_, _, rfl, rfl⟩
theorem inxHL : Statement .inxHL := ⟨_, _, rfl, rfl⟩
theorem inrH : Statement .inrH := ⟨_, _, rfl, rfl⟩
theorem dcrH : Statement .dcrH := ⟨_, _, rfl, rfl⟩
theorem mviH (v : Byte) : Statement (.mviH v) := ⟨_, _, rfl, rfl⟩
theorem daa : Statement .daa := ⟨_, _, rfl, rfl⟩
theorem unimplemented28 : Statement .unimplemented28 := ⟨_, _, rfl, rfl⟩
theorem dadHL : Statement .dadHL := ⟨_, _, rfl, rfl⟩
theorem lhld (w : Word) : Statement (.lhld w) := ⟨_, _, rfl, rfl⟩
theorem dcxHL : Statement .dcxHL := ⟨_, _, rfl, rfl⟩
theorem inrL : Statement .inrL := ⟨_, _, rfl, rfl⟩
theorem dcrL : Statement .dcrL := ⟨_, _, rfl, rfl⟩
theorem mviL (v : Byte) : Statement (.mviL v) := ⟨_, _, rfl, rfl⟩
theorem cma : Statement .cma := ⟨_, _, rfl, rfl⟩
theorem unimplemented30 : Statement .unimplemented30 := ⟨_, _, rfl, rfl⟩
theorem lxiSP (w : Word) : Statement (.lxiSP w) := ⟨_, _, rfl, rfl⟩
theorem sta (w : Word) : Statement (.sta w) := ⟨_, _, rfl, rfl⟩
theorem inxSP : Statement .inxSP := ⟨_, _, rfl, rfl⟩
theorem inrM : Statement .inrM := ⟨_, _, rfl, rfl⟩
theorem dcrM : Statement .dcrM := ⟨_, _, rfl, rfl⟩
theorem mviM (v : Byte) : Statement (.mviM v) := ⟨_, _, rfl, rfl⟩
theorem stc : Statement .stc := ⟨_, _, rfl, rfl⟩
theorem unimplemented38 : Statement .unimplemented38 := ⟨_, _, rfl, rfl⟩
theorem dadSP : Statement .dadSP := ⟨_, _, rfl, rfl⟩
theorem lda (w : Word) : Statement (.lda w) := ⟨_, _, rfl, rfl⟩
theorem dcxSP : Statement .dcxSP := ⟨_, _, rfl, rfl⟩
theorem inrA : Statement .inrA := ⟨_, _, rfl, rfl⟩
theorem dcrA : Statement .dcrA := ⟨_, _, rfl, rfl⟩
theorem mviA (v : Byte) : Statement (.mviA v) := ⟨_, _, rfl, rfl⟩
theorem cmc : Statement .cmc := ⟨_, _, rfl, rfl⟩
theorem movBB : Statement .movBB := ⟨_, _, rfl, rfl⟩
theorem movBC : Statement .movBC := ⟨_, _, rfl, rfl⟩
theorem movBD : Statement .movBD := ⟨_, _, rfl, rfl⟩
theorem movBE : Statement .movBE := ⟨_, _, rfl, rfl⟩
theorem movBH : Statement .movBH := ⟨_, _, rfl, rfl⟩
theorem movBL : Statement .movBL := ⟨_, _, rfl, rfl⟩
theorem movBM : Statement .movBM := ⟨_, _, rfl, rfl⟩
theorem movBA : Statement .movBA := ⟨_, _, rfl, rfl⟩
theorem movCB : Statement .movCB := ⟨_, _, rfl, rfl⟩
theorem movCC : Statement .movCC := ⟨_, _, rfl, rfl⟩
theorem movCD : Statement .movCD := ⟨_, _, rfl, rfl⟩
theorem movCE : Statement .movCE := ⟨_, _, rfl, rfl⟩
theorem movCH : Statement .movCH := ⟨_, _, rfl, rfl⟩
theorem movCL : Statement .movCL := ⟨_, _, rfl, rfl⟩
theorem movCM : Statement .movCM := ⟨_, _, rfl, rfl⟩
theorem movCA : Statement .movCA := ⟨_, _, rfl, rfl⟩
theorem movDB : Statement .movDB := ⟨_, _, rfl, rfl⟩
theorem movDC : Statement .movDC := ⟨_, _, rfl, rfl⟩
theorem movDD : Statement .movDD := ⟨_, _, rfl, rfl⟩
theorem movDE : Statement .movDE := ⟨_, _, rfl, rfl⟩
theorem movDH : Statement .movDH := ⟨_, _, rfl, rfl⟩
theorem movDL : Statement .movDL := ⟨_, _, rfl, rfl⟩
theorem movDM : Statement .movDM := ⟨_, _, rfl, rfl⟩
theorem movDA : Statement .movDA := ⟨_, _, rfl, rfl⟩
theorem movEB : Statement .movEB := ⟨_, _, rfl, rfl⟩
theorem movEC : Statement .movEC := ⟨_, _, rfl, rfl⟩
theorem movED : Statement .movED := ⟨_, _, rfl, rfl⟩
theorem movEE : Statement .movEE := ⟨_, _, rfl, rfl⟩
theorem movEH : Statement .movEH := ⟨_, _, rfl, rfl⟩
theorem movEL : Statement .movEL := ⟨_, _, rfl, rfl⟩
theorem movEM : Statement .movEM := ⟨_, _, rfl, rfl⟩
theorem movEA : Statement .movEA := ⟨_, _, rfl, rfl⟩
theorem movHB : Statement .movHB := ⟨_, _, rfl, rfl⟩
theorem movHC : Statement .movHC := ⟨_, _, rfl, rfl⟩
theorem movHD : Statement .movHD := ⟨_, _, rfl, rfl⟩
theorem movHE : Statement .movHE := ⟨_, _, rfl, rfl⟩
theorem movHH : Statement .movHH := ⟨_, _, rfl, rfl⟩
theorem movHL : Statement .movHL := ⟨_, _, rfl, rfl⟩
theorem movHM : Statement .movHM := ⟨_, _, rfl, rfl⟩
theorem movHA : Statement .movHA := ⟨_, _, rfl, rfl⟩
theorem movLB : Statement .movLB := ⟨_, _, rfl, rfl⟩
theorem movLC : Statement .movLC := ⟨_, _, rfl, rfl⟩
theorem movLD : Statement .movLD := ⟨_, _, rfl, rfl⟩
theorem movLE : Statement .movLE := ⟨_, _, rfl, rfl⟩
theorem movLH : Statement .movLH := ⟨_, _, rfl, rfl⟩
theorem movLL : Statement .movLL := ⟨_, _, rfl, rfl⟩
theorem movLM : Statement .movLM := ⟨_, _, rfl, rfl⟩
theorem movLA : Statement .movLA := ⟨_, _, rfl, rfl⟩
theorem movMB : Statement .movMB := ⟨_, _, rfl, rfl⟩
theorem movMC : Statement .movMC := ⟨_, _, rfl, rfl⟩
theorem movMD : Statement .movMD := ⟨_, _, rfl, rfl⟩
theorem movME : Statement .movME := ⟨_, _, rfl, rfl⟩
theorem movMH : Statement .movMH := ⟨_, _, rfl, rfl⟩
theorem movML : Statement .movML := ⟨_, _, rfl, rfl⟩
theorem hlt : Statement .hlt := ⟨_, _, rfl, rfl⟩
theorem movMA : Statement .movMA := ⟨_, _, rfl, rfl⟩
theorem movAB : Statement .movAB := ⟨_, _, rfl, rfl⟩
theorem movAC : Statement .movAC := ⟨_, _, rfl, rfl⟩
theorem movAD : Statement .movAD := ⟨_, _, rfl, rfl⟩
theorem movAE : Statement .movAE := ⟨_, _, rfl, rfl⟩
theorem movAH : Statement .movAH := ⟨_, _, rfl, rfl⟩
theorem movAL : Statement .movAL := ⟨_, _, rfl, rfl⟩
theorem movAM : Statement .movAM := ⟨_, _, rfl, rfl⟩
theorem movAA : Statement .movAA := ⟨_, _, rfl, rfl⟩
theorem addB : Statement .addB := ⟨_, _, rfl, rfl⟩
theorem addC : Statement .addC := ⟨_, _, rfl, rfl⟩
theorem addD : Statement .addD := ⟨_, _, rfl, rfl⟩
theorem addE : Statement .addE := ⟨_, _, rfl, rfl⟩
theorem addH : Statement .addH := ⟨_, _, rfl, rfl⟩
theorem addL : Statement .addL := ⟨_, _, rfl, rfl⟩
theorem addM : Statement .addM := ⟨_, _, rfl, rfl⟩
theorem addA : Statement .addA := ⟨_, _, rfl, rfl⟩
theorem adcB : Statement .adcB := ⟨_, _, rfl, rfl⟩
theorem adcC : Statement .adcC := ⟨_, _, rfl, rfl⟩
theorem adcD : Statement .adcD := ⟨_, _, rfl, rfl⟩
theorem adcE : Statement .adcE := ⟨_, _, rfl, rfl⟩
theorem adcH : Statement .adcH := ⟨_, _, rfl, rfl⟩
theorem adcL : Statement .adcL := ⟨_, _, rfl, rfl⟩
theorem adcM : Statement .adcM := ⟨_, _, rfl, rfl⟩
theorem adcA : Statement .adcA := ⟨_, _, rfl, rfl⟩
theorem subB : Statement .subB := ⟨_, _, rfl, rfl⟩
theorem subC : Statement .subC := ⟨_, _, rfl, rfl⟩
theorem subD : Statement .subD := ⟨_, _, rfl, rfl⟩
theorem subE : Statement .subE := ⟨_, _, rfl, rfl⟩
theorem subH : Statement .subH := ⟨_, _, rfl, rfl⟩
theorem subL : Statement .subL := ⟨_, _, rfl, rfl⟩
theorem subM : Statement .subM := ⟨_, _, rfl, rfl⟩
theorem subA : Statement .subA := ⟨_, _, rfl, rfl⟩
theorem sbbB : Statement .sbbB := ⟨_, _, rfl, rfl⟩
theorem sbbC : Statement .sbbC := ⟨_, _, rfl, rfl⟩
theorem sbbD : Statement .sbbD := ⟨_, _, rfl, rfl⟩
theorem sbbE : Statement .sbbE := ⟨_, _, rfl, rfl⟩
theorem sbbH : Statement .sbbH := ⟨_, _, rfl, rfl⟩
theorem sbbL : Statement .sbbL := ⟨_, _, rfl, rfl⟩
theorem sbbM : Statement .sbbM := ⟨_, _, rfl, rfl⟩
theorem sbbA : Statement .sbbA := ⟨_, _, rfl, rfl⟩
theorem anaB : Statement .anaB := ⟨_, _, rfl, rfl⟩
theorem anaC : Statement .anaC := ⟨_, _, rfl, rfl⟩
theorem anaD : Statement .anaD := ⟨_, _, rfl, rfl⟩
theorem anaE : Statement .anaE := ⟨_, _, rfl, rfl⟩
theorem anaH : Statement .anaH := ⟨_, _, rfl, rfl⟩
theorem anaL : Statement .anaL := ⟨_, _, rfl, rfl⟩
theorem anaM : Statement .anaM := ⟨_, _, rfl, rfl⟩
theorem anaA : Statement .anaA := ⟨_, _, rfl, rfl⟩
theorem xraB : Statement .xraB := ⟨_, _, rfl, rfl⟩
theorem xraC : Statement .xraC := ⟨_, _, rfl, rfl⟩
theorem xraD : Statement .xraD := ⟨_, _, rfl, rfl⟩
theorem xraE : Statement .xraE := ⟨_, _, rfl, rfl⟩
theorem xraH : Statement .xraH := ⟨_, _, rfl, rfl⟩
theorem xraL : Statement .xraL := ⟨_, _, rfl, rfl⟩
theorem xraM : Statement .xraM := ⟨_, _, rfl, rfl⟩
theorem xraA : Statement .xraA := ⟨_, _, rfl, rfl⟩
theorem oraB : Statement .oraB := ⟨_, _, rfl, rfl⟩
theorem oraC : Statement .oraC := ⟨_, _, rfl, rfl⟩
theorem oraD : Statement .oraD := ⟨_, _, rfl, rfl⟩
theorem oraE : Statement .oraE := ⟨_, _, rfl, rfl⟩
theorem oraH : Statement .oraH := ⟨_, _, rfl, rfl⟩
theorem oraL : Statement .oraL := ⟨_, _, rfl, rfl⟩
theorem oraM : Statement .oraM := ⟨_, _, rfl, rfl⟩
theorem oraA : Statement .oraA := ⟨_, _, rfl, rfl⟩
theorem cmpB : Statement .cmpB := ⟨_, _, rfl, rfl⟩
theorem cmpC : Statement .cmpC := ⟨_, _, rfl, rfl⟩
theorem cmpD : Statement .cmpD := ⟨_, _, rfl, rfl⟩
theorem cmpE : Statement .cmpE := ⟨_, _, rfl, rfl⟩
theorem cmpH : Statement .cmpH := ⟨_, _, rfl, rfl⟩
theorem cmpL : Statement .cmpL := ⟨_, _, rfl, rfl⟩
theorem cmpM : Statement .cmpM := ⟨_, _, rfl, rfl⟩
theorem cmpA : Statement .cmpA := ⟨_, _, rfl, rfl⟩
theorem rnz : Statement .rnz := ⟨_, _, rfl, rfl⟩
theorem popBC : Statement .popBC := ⟨_, _, rfl, rfl⟩
theorem jnz (w : Word) : Statement (.jnz w) := ⟨_, _, rfl, rfl⟩
theorem jmp (w : Word) : Statement (.jmp w) := ⟨_, _, rfl, rfl⟩
theorem cnz (w : Word) : Statement (.cnz w) := ⟨_, _, rfl, rfl⟩
theorem pushBC : Statement .pushBC := ⟨_, _, rfl, rfl⟩
theorem adi (v : Byte) : Statement (.adi v) := ⟨_, _, rfl, rfl⟩
theorem rst0 : Statement .rst0 := ⟨_, _, rfl, rfl⟩
theorem rz : Statement .rz := ⟨_, _, rfl, rfl⟩
theorem ret : Statement .ret := ⟨_, _, rfl, rfl⟩
theorem jz (w : Word) : Statement (.jz w) := ⟨_, _, rfl, rfl⟩
theorem unimplementedCB : Statement .unimplementedCB := ⟨_, _, rfl, rfl⟩
theorem cz (w : Word) : Statement (.cz w) := ⟨_, _, rfl, rfl⟩
theorem call (w : Word) : Statement (.call w) := ⟨_, _, rfl, rfl⟩
theorem aci (v : Byte) : Statement (.aci v) := ⟨_, _, rfl, rfl⟩
theorem rst1 : Statement .rst1 := ⟨_, _, rfl, rfl⟩
theorem rnc : Statement .rnc := ⟨_, _, rfl, rfl⟩
theorem popDE : Statement .popDE := ⟨_, _, rfl, rfl⟩
theorem jnc (w : Word) : Statement (.jnc w) := ⟨_, _, rfl, rfl⟩
theorem outPort (v : Byte) : Statement (.outPort v) := ⟨_, _, rfl, rfl⟩
theorem cnc (w : Word) : Statement (.cnc w) := ⟨_, _, rfl, rfl⟩
theorem pushDE : Statement .pushDE := ⟨_, _, rfl, rfl⟩
theorem sui (v : Byte) : Statement (.sui v) := ⟨_, _, rfl, rfl⟩
theorem rst2 : Statement .rst2 := ⟨_, _, rfl, rfl⟩
theorem rc : Statement .rc := ⟨_, _, rfl, rfl⟩
theorem unimplementedD9 : Statement .unimplementedD9 := ⟨_, _, rfl, rfl⟩
theorem jc (w : Word) : Statement (.jc w) := ⟨_, _, rfl, rfl⟩
theorem inPort (v : Byte) : Statement (.inPort v) := ⟨_, _, rfl, rfl⟩
theorem cc (w : Word) : Statement (.cc w) := ⟨_, _, rfl, rfl⟩
theorem unimplementedDD : Statement .unimplementedDD := ⟨_, _, rfl, rfl⟩
theorem sbi (v : Byte) : Statement (.sbi v) := ⟨_, _, rfl, rfl⟩
theorem rst3 : Statement .rst3 := ⟨_, _, rfl, rfl⟩
theorem rpo : Statement .rpo := ⟨_, _, rfl, rfl⟩
theorem popHL : Statement .popHL := ⟨_, _, rfl, rfl⟩
theorem jpo (w : Word) : Statement (.jpo w) := ⟨_, _, rfl, rfl⟩
theorem xthl : Statement .xthl := ⟨_, _, rfl, rfl⟩
theorem cpo (w : Word) : Statement (.cpo w) := ⟨_, _, rfl, rfl⟩
theorem pushHL : Statement .pushHL := ⟨_, _, rfl, rfl⟩
theorem ani (v : Byte) : Statement (.ani v) := ⟨_, _, rfl, rfl⟩
theorem rst4 : Statement .rst4 := ⟨_, _, rfl, rfl⟩
theorem rpe : Statement .rpe := ⟨_, _, rfl, rfl⟩
theorem pchl : Statement .pchl := ⟨_, _, rfl, rfl⟩
theorem jpe (w : Word) : Statement (.jpe w) := ⟨_, _, rfl, rfl⟩
theorem xchg : Statement .xchg := ⟨_, _, rfl, rfl⟩
theorem cpe (w : Word) : Statement (.cpe w) := ⟨_, _, rfl, rfl⟩
theorem unimplementedED : Statement .unimplementedED := ⟨_, _, rfl, rfl⟩
theorem xri (v : Byte) : Statement (.xri v) := ⟨_, _, rfl, rfl⟩
theorem rst5 : Statement .rst5 := ⟨_, _, rfl, rfl⟩
theorem rp : Statement .rp := ⟨_, _, rfl, rfl⟩
theorem popPSW : Statement .popPSW := ⟨_, _, rfl, rfl⟩
theorem jp (w : Word) : Statement (.jp w) := ⟨_, _, rfl, rfl⟩
theorem di : Statement .di := ⟨_, _, rfl, rfl⟩
theorem cp (w : Word) : Statement (.cp w) := ⟨_, _, rfl, rfl⟩
theorem pushPSW : Statement .pushPSW := ⟨_, _, rfl, rfl⟩
theorem ori (v : Byte) : Statement (.ori v) := ⟨_, _, rfl, rfl⟩
theorem rst6 : Statement .rst6 := ⟨_, _, rfl, rfl⟩
theorem rm : Statement .rm := ⟨_, _, rfl, rfl⟩
theorem sphl : Statement .sphl := ⟨_, _, rfl, rfl⟩
theorem jm (w : Word) : Statement (.jm w) := ⟨_, _, rfl, rfl⟩
theorem ei : Statement .ei := ⟨_, _, rfl, rfl⟩
theorem cm (w : Word) : Statement (.cm w) := ⟨_, _, rfl, rfl⟩
theorem unimplementedFD : Statement .unimplementedFD := ⟨_, _, rfl, rfl⟩
theorem cpi (v : Byte) : Statement (.cpi v) := ⟨_, _, rfl, rfl⟩
theorem rst7 : Statement .rst7 := ⟨_, _, rfl, rfl⟩

end Sys2Proof.Laws.EncodeLength
end

