-- ==== Sys2Proof/Tests/Slice0.lean ====
section
/-! SUPPORT. The model's own tests: what the checks of WellFormed refuse; every row of spec/opcode_table.json decoded from a
word written from its encoding; one step of the spec's test vectors (95_test_vectors.md, the id is in the docstring); and for
every statement with hypotheses a concrete witness of all of them. -/

namespace Sys2Proof.Tests

open Sys2Proof.Machine Sys2Proof.Claims

set_option maxRecDepth 4000

/-- A state with code from an address on, some other bytes of memory, and pc at the code. -/
def placed (a : Word) (code : List Byte) (cells : List Host.Cell) (s : State) : State :=
  { s with pc := a, mem := cells.foldl (fun m c => Memory.write m c.1 c.2) (Memory.ofImage code a.toNat) }

/-- The state after one step, which has to be a next state. -/
def ran (s : State) : State :=
  match step s with
  | .next t => t
  | .fault _ => s
  | .refused _ => s

/-! ## WellFormed: each check refuses an ill-formed term -/

theorem test_interrupt_number_8_refused : interruptNumberOk 8 = false ∧ interruptNumberOk 7 = true := by decide
theorem test_input_index_3_refused : inputIndexOk 3 = false ∧ inputIndexOk 2 = true := by decide
theorem test_rom_of_65537_bytes_refused : romImageOk (List.replicate 65537 0x00#8) = false := by
  rw [romImageOk, List.length_replicate]; decide
theorem test_undocumented_byte_has_no_handler :
    Instr.implemented .unimplemented08 = false ∧ Instr.implemented .hlt = true := by decide
theorem test_truncated_word_refused : decodeTableWord 8 0xC3 = some (.jmp 0x0000#16) ∧
    decode [0xC3#8, 0x00#8] = .error (.truncated 0xC3#8 2) := ⟨by decide, rfl⟩

/-! ## Decoding: the 256 rows of the opcode table, each from its encoding (operand byte 0x5A; operand word 0x1234, low
byte first) -/

theorem test_decode_opcodes_0x :
    [decodeTableWord 8 0b00000000, decodeTableWord 24 0b000100100011010000000001,
      decodeTableWord 8 0b00000010, decodeTableWord 8 0b00000011,
      decodeTableWord 8 0b00000100, decodeTableWord 8 0b00000101,
      decodeTableWord 16 0b0101101000000110, decodeTableWord 8 0b00000111,
      decodeTableWord 8 0b00001000, decodeTableWord 8 0b00001001,
      decodeTableWord 8 0b00001010, decodeTableWord 8 0b00001011,
      decodeTableWord 8 0b00001100, decodeTableWord 8 0b00001101,
      decodeTableWord 16 0b0101101000001110, decodeTableWord 8 0b00001111]
    = [some .nop, some (.lxiBC 0b0001001000110100#16), some .staxBC, some .inxBC,
      some .inrB, some .dcrB, some (.mviB 0b01011010#8), some .rlc,
      some .unimplemented08, some .dadBC, some .ldaxBC, some .dcxBC,
      some .inrC, some .dcrC, some (.mviC 0b01011010#8), some .rrc] := by decide

theorem test_decode_opcodes_1x :
    [decodeTableWord 8 0b00010000, decodeTableWord 24 0b000100100011010000010001,
      decodeTableWord 8 0b00010010, decodeTableWord 8 0b00010011,
      decodeTableWord 8 0b00010100, decodeTableWord 8 0b00010101,
      decodeTableWord 16 0b0101101000010110, decodeTableWord 8 0b00010111,
      decodeTableWord 8 0b00011000, decodeTableWord 8 0b00011001,
      decodeTableWord 8 0b00011010, decodeTableWord 8 0b00011011,
      decodeTableWord 8 0b00011100, decodeTableWord 8 0b00011101,
      decodeTableWord 16 0b0101101000011110, decodeTableWord 8 0b00011111]
    = [some .unimplemented10, some (.lxiDE 0b0001001000110100#16), some .staxDE, some .inxDE,
      some .inrD, some .dcrD, some (.mviD 0b01011010#8), some .ral,
      some .unimplemented18, some .dadDE, some .ldaxDE, some .dcxDE,
      some .inrE, some .dcrE, some (.mviE 0b01011010#8), some .rar] := by decide

theorem test_decode_opcodes_2x :
    [decodeTableWord 8 0b00100000, decodeTableWord 24 0b000100100011010000100001,
      decodeTableWord 24 0b000100100011010000100010, decodeTableWord 8 0b00100011,
      decodeTableWord 8 0b00100100, decodeTableWord 8 0b00100101,
      decodeTableWord 16 0b0101101000100110, decodeTableWord 8 0b00100111,
      decodeTableWord 8 0b00101000, decodeTableWord 8 0b00101001,
      decodeTableWord 24 0b000100100011010000101010, decodeTableWord 8 0b00101011,
      decodeTableWord 8 0b00101100, decodeTableWord 8 0b00101101,
      decodeTableWord 16 0b0101101000101110, decodeTableWord 8 0b00101111]
    = [some .unimplemented20, some (.lxiHL 0b0001001000110100#16), some (.shld 0b0001001000110100#16), some .inxHL,
      some .inrH, some .dcrH, some (.mviH 0b01011010#8), some .daa,
      some .unimplemented28, some .dadHL, some (.lhld 0b0001001000110100#16), some .dcxHL,
      some .inrL, some .dcrL, some (.mviL 0b01011010#8), some .cma] := by decide

theorem test_decode_opcodes_3x :
    [decodeTableWord 8 0b00110000, decodeTableWord 24 0b000100100011010000110001,
      decodeTableWord 24 0b000100100011010000110010, decodeTableWord 8 0b00110011,
      decodeTableWord 8 0b00110100, decodeTableWord 8 0b00110101,
      decodeTableWord 16 0b0101101000110110, decodeTableWord 8 0b00110111,
      decodeTableWord 8 0b00111000, decodeTableWord 8 0b00111001,
      decodeTableWord 24 0b000100100011010000111010, decodeTableWord 8 0b00111011,
      decodeTableWord 8 0b00111100, decodeTableWord 8 0b00111101,
      decodeTableWord 16 0b0101101000111110, decodeTableWord 8 0b00111111]
    = [some .unimplemented30, some (.lxiSP 0b0001001000110100#16), some (.sta 0b0001001000110100#16), some .inxSP,
      some .inrM, some .dcrM, some (.mviM 0b01011010#8), some .stc,
      some .unimplemented38, some .dadSP, some (.lda 0b0001001000110100#16), some .dcxSP,
      some .inrA, some .dcrA, some (.mviA 0b01011010#8), some .cmc] := by decide

theorem test_decode_opcodes_4x :
    [decodeTableWord 8 0b01000000, decodeTableWord 8 0b01000001,
      decodeTableWord 8 0b01000010, decodeTableWord 8 0b01000011,
      decodeTableWord 8 0b01000100, decodeTableWord 8 0b01000101,
      decodeTableWord 8 0b01000110, decodeTableWord 8 0b01000111,
      decodeTableWord 8 0b01001000, decodeTableWord 8 0b01001001,
      decodeTableWord 8 0b01001010, decodeTableWord 8 0b01001011,
      decodeTableWord 8 0b01001100, decodeTableWord 8 0b01001101,
      decodeTableWord 8 0b01001110, decodeTableWord 8 0b01001111]
    = [some .movBB, some .movBC, some .movBD, some .movBE,
      some .movBH, some .movBL, some .movBM, some .movBA,
      some .movCB, some .movCC, some .movCD, some .movCE,
      some .movCH, some .movCL, some .movCM, some .movCA] := by decide

theorem test_decode_opcodes_5x :
    [decodeTableWord 8 0b01010000, decodeTableWord 8 0b01010001,
      decodeTableWord 8 0b01010010, decodeTableWord 8 0b01010011,
      decodeTableWord 8 0b01010100, decodeTableWord 8 0b01010101,
      decodeTableWord 8 0b01010110, decodeTableWord 8 0b01010111,
      decodeTableWord 8 0b01011000, decodeTableWord 8 0b01011001,
      decodeTableWord 8 0b01011010, decodeTableWord 8 0b01011011,
      decodeTableWord 8 0b01011100, decodeTableWord 8 0b01011101,
      decodeTableWord 8 0b01011110, decodeTableWord 8 0b01011111]
    = [some .movDB, some .movDC, some .movDD, some .movDE,
      some .movDH, some .movDL, some .movDM, some .movDA,
      some .movEB, some .movEC, some .movED, some .movEE,
      some .movEH, some .movEL, some .movEM, some .movEA] := by decide

theorem test_decode_opcodes_6x :
    [decodeTableWord 8 0b01100000, decodeTableWord 8 0b01100001,
      decodeTableWord 8 0b01100010, decodeTableWord 8 0b01100011,
      decodeTableWord 8 0b01100100, decodeTableWord 8 0b01100101,
      decodeTableWord 8 0b01100110, decodeTableWord 8 0b01100111,
      decodeTableWord 8 0b01101000, decodeTableWord 8 0b01101001,
      decodeTableWord 8 0b01101010, decodeTableWord 8 0b01101011,
      decodeTableWord 8 0b01101100, decodeTableWord 8 0b01101101,
      decodeTableWord 8 0b01101110, decodeTableWord 8 0b01101111]
    = [some .movHB, some .movHC, some .movHD, some .movHE,
      some .movHH, some .movHL, some .movHM, some .movHA,
      some .movLB, some .movLC, some .movLD, some .movLE,
      some .movLH, some .movLL, some .movLM, some .movLA] := by decide

theorem test_decode_opcodes_7x :
    [decodeTableWord 8 0b01110000, decodeTableWord 8 0b01110001,
      decodeTableWord 8 0b01110010, decodeTableWord 8 0b01110011,
      decodeTableWord 8 0b01110100, decodeTableWord 8 0b01110101,
      decodeTableWord 8 0b01110110, decodeTableWord 8 0b01110111,
      decodeTableWord 8 0b01111000, decodeTableWord 8 0b01111001,
      decodeTableWord 8 0b01111010, decodeTableWord 8 0b01111011,
      decodeTableWord 8 0b01111100, decodeTableWord 8 0b01111101,
      decodeTableWord 8 0b01111110, decodeTableWord 8 0b01111111]
    = [some .movMB, some .movMC, some .movMD, some .movME,
      some .movMH, some .movML, some .hlt, some .movMA,
      some .movAB, some .movAC, some .movAD, some .movAE,
      some .movAH, some .movAL, some .movAM, some .movAA] := by decide

theorem test_decode_opcodes_8x :
    [decodeTableWord 8 0b10000000, decodeTableWord 8 0b10000001,
      decodeTableWord 8 0b10000010, decodeTableWord 8 0b10000011,
      decodeTableWord 8 0b10000100, decodeTableWord 8 0b10000101,
      decodeTableWord 8 0b10000110, decodeTableWord 8 0b10000111,
      decodeTableWord 8 0b10001000, decodeTableWord 8 0b10001001,
      decodeTableWord 8 0b10001010, decodeTableWord 8 0b10001011,
      decodeTableWord 8 0b10001100, decodeTableWord 8 0b10001101,
      decodeTableWord 8 0b10001110, decodeTableWord 8 0b10001111]
    = [some .addB, some .addC, some .addD, some .addE,
      some .addH, some .addL, some .addM, some .addA,
      some .adcB, some .adcC, some .adcD, some .adcE,
      some .adcH, some .adcL, some .adcM, some .adcA] := by decide

theorem test_decode_opcodes_9x :
    [decodeTableWord 8 0b10010000, decodeTableWord 8 0b10010001,
      decodeTableWord 8 0b10010010, decodeTableWord 8 0b10010011,
      decodeTableWord 8 0b10010100, decodeTableWord 8 0b10010101,
      decodeTableWord 8 0b10010110, decodeTableWord 8 0b10010111,
      decodeTableWord 8 0b10011000, decodeTableWord 8 0b10011001,
      decodeTableWord 8 0b10011010, decodeTableWord 8 0b10011011,
      decodeTableWord 8 0b10011100, decodeTableWord 8 0b10011101,
      decodeTableWord 8 0b10011110, decodeTableWord 8 0b10011111]
    = [some .subB, some .subC, some .subD, some .subE,
      some .subH, some .subL, some .subM, some .subA,
      some .sbbB, some .sbbC, some .sbbD, some .sbbE,
      some .sbbH, some .sbbL, some .sbbM, some .sbbA] := by decide

theorem test_decode_opcodes_Ax :
    [decodeTableWord 8 0b10100000, decodeTableWord 8 0b10100001,
      decodeTableWord 8 0b10100010, decodeTableWord 8 0b10100011,
      decodeTableWord 8 0b10100100, decodeTableWord 8 0b10100101,
      decodeTableWord 8 0b10100110, decodeTableWord 8 0b10100111,
      decodeTableWord 8 0b10101000, decodeTableWord 8 0b10101001,
      decodeTableWord 8 0b10101010, decodeTableWord 8 0b10101011,
      decodeTableWord 8 0b10101100, decodeTableWord 8 0b10101101,
      decodeTableWord 8 0b10101110, decodeTableWord 8 0b10101111]
    = [some .anaB, some .anaC, some .anaD, some .anaE,
      some .anaH, some .anaL, some .anaM, some .anaA,
      some .xraB, some .xraC, some .xraD, some .xraE,
      some .xraH, some .xraL, some .xraM, some .xraA] := by decide

theorem test_decode_opcodes_Bx :
    [decodeTableWord 8 0b10110000, decodeTableWord 8 0b10110001,
      decodeTableWord 8 0b10110010, decodeTableWord 8 0b10110011,
      decodeTableWord 8 0b10110100, decodeTableWord 8 0b10110101,
      decodeTableWord 8 0b10110110, decodeTableWord 8 0b10110111,
      decodeTableWord 8 0b10111000, decodeTableWord 8 0b10111001,
      decodeTableWord 8 0b10111010, decodeTableWord 8 0b10111011,
      decodeTableWord 8 0b10111100, decodeTableWord 8 0b10111101,
      decodeTableWord 8 0b10111110, decodeTableWord 8 0b10111111]
    = [some .oraB, some .oraC, some .oraD, some .oraE,
      some .oraH, some .oraL, some .oraM, some .oraA,
      some .cmpB, some .cmpC, some .cmpD, some .cmpE,
      some .cmpH, some .cmpL, some .cmpM, some .cmpA] := by decide

theorem test_decode_opcodes_Cx :
    [decodeTableWord 8 0b11000000, decodeTableWord 8 0b11000001,
      decodeTableWord 24 0b000100100011010011000010, decodeTableWord 24 0b000100100011010011000011,
      decodeTableWord 24 0b000100100011010011000100, decodeTableWord 8 0b11000101,
      decodeTableWord 16 0b0101101011000110, decodeTableWord 8 0b11000111,
      decodeTableWord 8 0b11001000, decodeTableWord 8 0b11001001,
      decodeTableWord 24 0b000100100011010011001010, decodeTableWord 8 0b11001011,
      decodeTableWord 24 0b000100100011010011001100, decodeTableWord 24 0b000100100011010011001101,
      decodeTableWord 16 0b0101101011001110, decodeTableWord 8 0b11001111]
    = [some .rnz, some .popBC, some (.jnz 0b0001001000110100#16), some (.jmp 0b0001001000110100#16),
      some (.cnz 0b0001001000110100#16), some .pushBC, some (.adi 0b01011010#8), some .rst0,
      some .rz, some .ret, some (.jz 0b0001001000110100#16), some .unimplementedCB,
      some (.cz 0b0001001000110100#16), some (.call 0b0001001000110100#16), some (.aci 0b01011010#8), some .rst1] := by decide

theorem test_decode_opcodes_Dx :
    [decodeTableWord 8 0b11010000, decodeTableWord 8 0b11010001,
      decodeTableWord 24 0b000100100011010011010010, decodeTableWord 16 0b0101101011010011,
      decodeTableWord 24 0b000100100011010011010100, decodeTableWord 8 0b11010101,
      decodeTableWord 16 0b0101101011010110, decodeTableWord 8 0b11010111,
      decodeTableWord 8 0b11011000, decodeTableWord 8 0b11011001,
      decodeTableWord 24 0b000100100011010011011010, decodeTableWord 16 0b0101101011011011,
      decodeTableWord 24 0b000100100011010011011100, decodeTableWord 8 0b11011101,
      decodeTableWord 16 0b0101101011011110, decodeTableWord 8 0b11011111]
    = [some .rnc, some .popDE, some (.jnc 0b0001001000110100#16), some (.outPort 0b01011010#8),
      some (.cnc 0b0001001000110100#16), some .pushDE, some (.sui 0b01011010#8), some .rst2,
      some .rc, some .unimplementedD9, some (.jc 0b0001001000110100#16), some (.inPort 0b01011010#8),
      some (.cc 0b0001001000110100#16), some .unimplementedDD, some (.sbi 0b01011010#8), some .rst3] := by decide

theorem test_decode_opcodes_Ex :
    [decodeTableWord 8 0b11100000, decodeTableWord 8 0b11100001,
      decodeTableWord 24 0b000100100011010011100010, decodeTableWord 8 0b11100011,
      decodeTableWord 24 0b000100100011010011100100, decodeTableWord 8 0b11100101,
      decodeTableWord 16 0b0101101011100110, decodeTableWord 8 0b11100111,
      decodeTableWord 8 0b11101000, decodeTableWord 8 0b11101001,
      decodeTableWord 24 0b000100100011010011101010, decodeTableWord 8 0b11101011,
      decodeTableWord 24 0b000100100011010011101100, decodeTableWord 8 0b11101101,
      decodeTableWord 16 0b0101101011101110, decodeTableWord 8 0b11101111]
    = [some .rpo, some .popHL, some (.jpo 0b0001001000110100#16), some .xthl,
      some (.cpo 0b0001001000110100#16), some .pushHL, some (.ani 0b01011010#8), some .rst4,
      some .rpe, some .pchl, some (.jpe 0b0001001000110100#16), some .xchg,
      some (.cpe 0b0001001000110100#16), some .unimplementedED, some (.xri 0b01011010#8), some .rst5] := by decide

theorem test_decode_opcodes_Fx :
    [decodeTableWord 8 0b11110000, decodeTableWord 8 0b11110001,
      decodeTableWord 24 0b000100100011010011110010, decodeTableWord 8 0b11110011,
      decodeTableWord 24 0b000100100011010011110100, decodeTableWord 8 0b11110101,
      decodeTableWord 16 0b0101101011110110, decodeTableWord 8 0b11110111,
      decodeTableWord 8 0b11111000, decodeTableWord 8 0b11111001,
      decodeTableWord 24 0b000100100011010011111010, decodeTableWord 8 0b11111011,
      decodeTableWord 24 0b000100100011010011111100, decodeTableWord 8 0b11111101,
      decodeTableWord 16 0b0101101011111110, decodeTableWord 8 0b11111111]
    = [some .rp, some .popPSW, some (.jp 0b0001001000110100#16), some .di,
      some (.cp 0b0001001000110100#16), some .pushPSW, some (.ori 0b01011010#8), some .rst6,
      some .rm, some .sphl, some (.jm 0b0001001000110100#16), some .ei,
      some (.cm 0b0001001000110100#16), some .unimplementedFD, some (.cpi 0b01011010#8), some .rst7] := by decide

/-! ## One step of the spec's vectors; flags in the order Z, S, P, CY, AC -/

/-- 95_test_vectors.md T1: MOV A,B. -/
theorem test_mov_copies :
    let t := ran (placed 0x0100#16 [0x78#8] []
      { State.reset with regs := { State.reset.regs with b := 0x12#8 } })
    t.regs.a = 0x12#8 ∧ t.pc = 0x0101#16 ∧ t.flags = ⟨false, false, false, false, false⟩ := by decide

/-- 95_test_vectors.md T4: MOV H,M. -/
theorem test_mov_h_m_reads_with_old_hl :
    let t := ran (placed 0x0100#16 [0x66#8] [(0x2010, 0x33#8)]
      { State.reset with regs := { State.reset.regs with h := 0x20#8, l := 0x10#8 } })
    t.regs.h = 0x33#8 ∧ t.pc = 0x0101#16 ∧ t.flags = ⟨false, false, false, false, false⟩ := by decide

/-- 95_test_vectors.md T6: MOV M,H. -/
theorem test_mov_m_h_stores_at_hl :
    let t := ran (placed 0x0100#16 [0x74#8] []
      { State.reset with regs := { State.reset.regs with h := 0x21#8, l := 0x05#8 } })
    t.pc = 0x0101#16 ∧ t.flags = ⟨false, false, false, false, false⟩ ∧ t.readByte 0x2105#16 = 0x21#8 := by decide

/-- 95_test_vectors.md T8: MVI M,0x7F. -/
theorem test_mvi_m :
    let t := ran (placed 0x0100#16 [0x36#8, 0x7F#8] []
      { State.reset with regs := { State.reset.regs with h := 0x20#8, l := 0x01#8 } })
    t.pc = 0x0102#16 ∧ t.flags = ⟨false, false, false, false, false⟩ ∧ t.readByte 0x2001#16 = 0x7F#8 := by decide

/-- 95_test_vectors.md T9: LXI HL,0x2400. -/
theorem test_lxi_hl :
    let t := ran (placed 0x0100#16 [0x21#8, 0x00#8, 0x24#8] []
      State.reset)
    t.regs.h = 0x24#8 ∧ t.pc = 0x0103#16 ∧ t.flags = ⟨false, false, false, false, false⟩ := by decide

/-- 95_test_vectors.md T10: LXI SP,0x23FE. -/
theorem test_lxi_sp :
    let t := ran (placed 0x0100#16 [0x31#8, 0xFE#8, 0x23#8] []
      State.reset)
    t.pc = 0x0103#16 ∧ t.sp = 0x23FE#16 ∧ t.flags = ⟨false, false, false, false, false⟩ := by decide

/-- 95_test_vectors.md T11: LDA 0x20C0. -/
theorem test_lda :
    let t := ran (placed 0x0100#16 [0x3A#8, 0xC0#8, 0x20#8] [(0x20C0, 0x33#8)]
      State.reset)
    t.regs.a = 0x33#8 ∧ t.pc = 0x0103#16 ∧ t.flags = ⟨false, false, false, false, false⟩ := by decide

/-- 95_test_vectors.md T12: STA 0x2000. -/
theorem test_sta :
    let t := ran (placed 0x0100#16 [0x32#8, 0x00#8, 0x20#8] []
      { State.reset with regs := { State.reset.regs with a := 0x01#8 } })
    t.pc = 0x0103#16 ∧ t.flags = ⟨false, false, false, false, false⟩ ∧ t.readByte 0x2000#16 = 0x01#8 := by decide

/-- 95_test_vectors.md T14: LHLD 0xFFFF. -/
theorem test_lhld_wraps :
    let t := ran (placed 0x0100#16 [0x2A#8, 0xFF#8, 0xFF#8] [(0xFFFF, 0x34#8), (0x0000, 0x12#8)]
      State.reset)
    t.regs.h = 0x12#8 ∧ t.regs.l = 0x34#8 ∧ t.pc = 0x0103#16 ∧
    t.flags = ⟨false, false, false, false, false⟩ := by decide

/-- 95_test_vectors.md T16: SHLD 0xFFFF. -/
theorem test_shld_wraps :
    let t := ran (placed 0x0100#16 [0x22#8, 0xFF#8, 0xFF#8] []
      { State.reset with regs := { State.reset.regs with h := 0xBE#8, l := 0xEF#8 } })
    t.pc = 0x0103#16 ∧ t.flags = ⟨false, false, false, false, false⟩ ∧ t.readByte 0x0000#16 = 0xBE#8 ∧
    t.readByte 0xFFFF#16 = 0xEF#8 := by decide

/-- 95_test_vectors.md T17: LDAX DE. -/
theorem test_ldax :
    let t := ran (placed 0x0100#16 [0x1A#8] [(0x1B00, 0x07#8)]
      { State.reset with regs := { State.reset.regs with d := 0x1B#8, e := 0x00#8 } })
    t.regs.a = 0x07#8 ∧ t.pc = 0x0101#16 ∧ t.flags = ⟨false, false, false, false, false⟩ := by decide

/-- 95_test_vectors.md T18: STAX BC. -/
theorem test_stax :
    let t := ran (placed 0x0100#16 [0x02#8] []
      { State.reset with regs := { State.reset.regs with a := 0x99#8, b := 0x21#8, c := 0x00#8 } })
    t.pc = 0x0101#16 ∧ t.flags = ⟨false, false, false, false, false⟩ ∧ t.readByte 0x2100#16 = 0x99#8 := by decide

/-- 95_test_vectors.md T19: XCHG. -/
theorem test_xchg :
    let t := ran (placed 0x0100#16 [0xEB#8] []
      { State.reset with regs := { State.reset.regs with d := 0xAB#8, e := 0xCD#8, h := 0x12#8, l := 0x34#8 } })
    t.regs.d = 0x12#8 ∧ t.regs.e = 0x34#8 ∧ t.regs.h = 0xAB#8 ∧ t.regs.l = 0xCD#8 ∧ t.pc = 0x0101#16 ∧
    t.flags = ⟨false, false, false, false, false⟩ := by decide

/-- 95_test_vectors.md T20: MVI A,0x55. -/
theorem test_immediate_fetch_wraps :
    let t := ran (placed 0xFFFF#16 [0x3E#8] [(0x0000, 0x55#8)]
      State.reset)
    t.regs.a = 0x55#8 ∧ t.pc = 0x0001#16 ∧ t.flags = ⟨false, false, false, false, false⟩ := by decide

/-- 95_test_vectors.md A1: ADD B. -/
theorem test_add_carry_and_zero :
    let t := ran (placed 0x0100#16 [0x80#8] []
      { State.reset with regs := { State.reset.regs with a := 0xFF#8, b := 0x01#8 } })
    t.regs.a = 0x00#8 ∧ t.pc = 0x0101#16 ∧ t.flags = ⟨true, false, true, true, true⟩ := by decide

/-- 95_test_vectors.md A5: ADD M. -/
theorem test_add_m :
    let t := ran (placed 0x0100#16 [0x86#8] [(0x2000, 0xF0#8)]
      { State.reset with regs := { State.reset.regs with a := 0x10#8, h := 0x20#8, l := 0x00#8 } })
    t.regs.a = 0x00#8 ∧ t.pc = 0x0101#16 ∧ t.flags = ⟨true, false, true, true, false⟩ := by decide

/-- 95_test_vectors.md A9: ADC C. -/
theorem test_adc_carry_in :
    let t := ran (placed 0x0100#16 [0x89#8] []
      { State.reset with regs := { State.reset.regs with a := 0x3D#8, c := 0x42#8 }, flags := { State.reset.flags with carry := true } })
    t.regs.a = 0x80#8 ∧ t.pc = 0x0101#16 ∧ t.flags = ⟨false, true, false, false, true⟩ := by decide

/-- 95_test_vectors.md A10: ACI 0x0F. -/
theorem test_aci_half_carry :
    let t := ran (placed 0x0100#16 [0xCE#8, 0x0F#8] []
      { State.reset with regs := { State.reset.regs with a := 0x00#8 }, flags := { State.reset.flags with carry := true } })
    t.regs.a = 0x10#8 ∧ t.pc = 0x0102#16 ∧ t.flags = ⟨false, false, false, false, true⟩ := by decide

/-- 95_test_vectors.md A13: SUB B. -/
theorem test_sub_zero_sets_half_carry :
    let t := ran (placed 0x0100#16 [0x90#8] []
      { State.reset with regs := { State.reset.regs with a := 0x05#8, b := 0x00#8 } })
    t.pc = 0x0101#16 ∧ t.flags = ⟨false, false, true, false, true⟩ := by decide

/-- 95_test_vectors.md A15: SUI 0x80. -/
theorem test_sui_borrow :
    let t := ran (placed 0x0100#16 [0xD6#8, 0x80#8] []
      { State.reset with regs := { State.reset.regs with a := 0x7F#8 } })
    t.regs.a = 0xFF#8 ∧ t.pc = 0x0102#16 ∧ t.flags = ⟨false, true, true, true, true⟩ := by decide

/-- 95_test_vectors.md A17: SBB B. -/
theorem test_sbb_borrow_in :
    let t := ran (placed 0x0100#16 [0x98#8] []
      { State.reset with regs := { State.reset.regs with a := 0x00#8, b := 0xFF#8 }, flags := { State.reset.flags with carry := true } })
    t.pc = 0x0101#16 ∧ t.flags = ⟨true, false, true, true, false⟩ := by decide

/-- 95_test_vectors.md A18: SBI 0x01. -/
theorem test_sbi :
    let t := ran (placed 0x0100#16 [0xDE#8, 0x01#8] []
      { State.reset with regs := { State.reset.regs with a := 0x01#8 }, flags := { State.reset.flags with carry := true } })
    t.regs.a = 0xFF#8 ∧ t.pc = 0x0102#16 ∧ t.flags = ⟨false, true, true, true, false⟩ := by decide

/-- 95_test_vectors.md A19: INR B. -/
theorem test_inr_leaves_carry :
    let t := ran (placed 0x0100#16 [0x04#8] []
      { State.reset with regs := { State.reset.regs with b := 0xFF#8 }, flags := { State.reset.flags with carry := true } })
    t.regs.b = 0x00#8 ∧ t.pc = 0x0101#16 ∧ t.flags = ⟨true, false, true, true, true⟩ := by decide

/-- 95_test_vectors.md A21: INR M. -/
theorem test_inr_m :
    let t := ran (placed 0x0100#16 [0x34#8] [(0x2000, 0x7F#8)]
      { State.reset with regs := { State.reset.regs with h := 0x20#8, l := 0x00#8 } })
    t.pc = 0x0101#16 ∧ t.flags = ⟨false, true, false, false, true⟩ ∧ t.readByte 0x2000#16 = 0x80#8 := by decide

/-- 95_test_vectors.md A22: DCR C. -/
theorem test_dcr_zero :
    let t := ran (placed 0x0100#16 [0x0D#8] []
      { State.reset with regs := { State.reset.regs with c := 0x00#8 } })
    t.regs.c = 0xFF#8 ∧ t.pc = 0x0101#16 ∧ t.flags = ⟨false, true, true, false, false⟩ := by decide

/-- 95_test_vectors.md A24: DCR M. -/
theorem test_dcr_m :
    let t := ran (placed 0x0100#16 [0x35#8] [(0x2000, 0x10#8)]
      { State.reset with regs := { State.reset.regs with h := 0x20#8, l := 0x00#8 } })
    t.pc = 0x0101#16 ∧ t.flags = ⟨false, false, true, false, false⟩ ∧ t.readByte 0x2000#16 = 0x0F#8 := by decide

/-- 95_test_vectors.md A25: INX BC. -/
theorem test_inx_wraps :
    let t := ran (placed 0x0100#16 [0x03#8] []
      { State.reset with regs := { State.reset.regs with b := 0xFF#8, c := 0xFF#8 } })
    t.regs.b = 0x00#8 ∧ t.regs.c = 0x00#8 ∧ t.pc = 0x0101#16 ∧
    t.flags = ⟨false, false, false, false, false⟩ := by decide

/-- 95_test_vectors.md A28: DCX SP. -/
theorem test_dcx_sp_wraps :
    let t := ran (placed 0x0100#16 [0x3B#8] []
      { State.reset with sp := 0x0000#16 })
    t.pc = 0x0101#16 ∧ t.sp = 0xFFFF#16 ∧ t.flags = ⟨false, false, false, false, false⟩ := by decide

/-- 95_test_vectors.md A31: DAD SP. -/
theorem test_dad_sp_leaves_zero :
    let t := ran (placed 0x0100#16 [0x39#8] []
      { State.reset with regs := { State.reset.regs with h := 0xFF#8, l := 0xFF#8 }, sp := 0x0001#16, flags := { State.reset.flags with zero := true } })
    t.regs.h = 0x00#8 ∧ t.regs.l = 0x00#8 ∧ t.pc = 0x0101#16 ∧
    t.flags = ⟨true, false, false, true, false⟩ := by decide

/-- 95_test_vectors.md D2: DAA. -/
theorem test_daa_doc_two_steps :
    let t := ran (placed 0x0100#16 [0x27#8] []
      { State.reset with regs := { State.reset.regs with a := 0x9A#8 } })
    t.regs.a = 0x00#8 ∧ t.pc = 0x0101#16 ∧ t.flags = ⟨true, false, true, true, false⟩ := by decide

/-- 95_test_vectors.md D2i: DAA. -/
theorem test_daa_intel :
    let t := ran (placed 0x0100#16 [0x27#8] []
      { State.reset with regs := { State.reset.regs with a := 0x9A#8 }, params := { Params.specDefault with daaVariant := .intel8080 } })
    t.regs.a = 0x00#8 ∧ t.pc = 0x0101#16 ∧ t.flags = ⟨true, false, true, true, true⟩ := by decide

/-- 95_test_vectors.md D3: DAA. -/
theorem test_daa_doc_loses_carry :
    let t := ran (placed 0x0100#16 [0x27#8] []
      { State.reset with regs := { State.reset.regs with a := 0x32#8 }, flags := { State.reset.flags with carry := true, auxCarry := true } })
    t.regs.a = 0x38#8 ∧ t.pc = 0x0101#16 ∧ t.flags = ⟨false, false, false, false, false⟩ := by decide

/-- 95_test_vectors.md D3i: DAA. -/
theorem test_daa_intel_keeps_carry :
    let t := ran (placed 0x0100#16 [0x27#8] []
      { State.reset with regs := { State.reset.regs with a := 0x32#8 }, flags := { State.reset.flags with carry := true, auxCarry := true }, params := { Params.specDefault with daaVariant := .intel8080 } })
    t.regs.a = 0x98#8 ∧ t.pc = 0x0101#16 ∧ t.flags = ⟨false, true, false, true, false⟩ := by decide

/-- 95_test_vectors.md D6: DAA. -/
theorem test_daa_doc_writes_no_flag :
    let t := ran (placed 0x0100#16 [0x27#8] []
      { State.reset with regs := { State.reset.regs with a := 0x00#8 } })
    t.pc = 0x0101#16 ∧ t.flags = ⟨false, false, false, false, false⟩ := by decide

/-- 95_test_vectors.md L1: ANA B. -/
theorem test_ana :
    let t := ran (placed 0x0100#16 [0xA0#8] []
      { State.reset with regs := { State.reset.regs with a := 0xFC#8, b := 0x0F#8 }, flags := { State.reset.flags with carry := true, auxCarry := true } })
    t.regs.a = 0x0C#8 ∧ t.pc = 0x0101#16 ∧ t.flags = ⟨false, false, true, false, false⟩ := by decide

/-- 95_test_vectors.md L4: ANI 0x80. -/
theorem test_ani :
    let t := ran (placed 0x0100#16 [0xE6#8, 0x80#8] []
      { State.reset with regs := { State.reset.regs with a := 0x81#8 } })
    t.regs.a = 0x80#8 ∧ t.pc = 0x0102#16 ∧ t.flags = ⟨false, true, false, false, false⟩ := by decide

/-- 95_test_vectors.md L6: XRA M. -/
theorem test_xra_m :
    let t := ran (placed 0x0100#16 [0xAE#8] [(0x2000, 0x0F#8)]
      { State.reset with regs := { State.reset.regs with a := 0xFF#8, h := 0x20#8, l := 0x00#8 } })
    t.regs.a = 0xF0#8 ∧ t.pc = 0x0101#16 ∧ t.flags = ⟨false, true, true, false, false⟩ := by decide

/-- 95_test_vectors.md L7: XRI 0xFF. -/
theorem test_xri :
    let t := ran (placed 0x0100#16 [0xEE#8, 0xFF#8] []
      { State.reset with regs := { State.reset.regs with a := 0x01#8 } })
    t.regs.a = 0xFE#8 ∧ t.pc = 0x0102#16 ∧ t.flags = ⟨false, true, false, false, false⟩ := by decide

/-- 95_test_vectors.md L9: ORA M. -/
theorem test_ora_m :
    let t := ran (placed 0x0100#16 [0xB6#8] [(0x2000, 0x02#8)]
      { State.reset with regs := { State.reset.regs with a := 0x01#8, h := 0x20#8, l := 0x00#8 } })
    t.regs.a = 0x03#8 ∧ t.pc = 0x0101#16 ∧ t.flags = ⟨false, false, true, false, false⟩ := by decide

/-- 95_test_vectors.md L10: ORI 0x80. -/
theorem test_ori :
    let t := ran (placed 0x0100#16 [0xF6#8, 0x80#8] []
      { State.reset with regs := { State.reset.regs with a := 0x00#8 }, flags := { State.reset.flags with carry := true } })
    t.regs.a = 0x80#8 ∧ t.pc = 0x0102#16 ∧ t.flags = ⟨false, true, false, false, false⟩ := by decide

/-- 95_test_vectors.md L12: CMP B. -/
theorem test_cmp_less :
    let t := ran (placed 0x0100#16 [0xB8#8] []
      { State.reset with regs := { State.reset.regs with a := 0x04#8, b := 0x05#8 } })
    t.pc = 0x0101#16 ∧ t.flags = ⟨false, true, true, true, false⟩ := by decide

/-- 95_test_vectors.md L15: CPI 0x00. -/
theorem test_cpi_equal :
    let t := ran (placed 0x0100#16 [0xFE#8, 0x00#8] []
      { State.reset with regs := { State.reset.regs with a := 0x00#8 } })
    t.pc = 0x0102#16 ∧ t.flags = ⟨true, false, true, false, true⟩ := by decide

/-- 95_test_vectors.md O1: RLC. -/
theorem test_rlc :
    let t := ran (placed 0x0100#16 [0x07#8] []
      { State.reset with regs := { State.reset.regs with a := 0xF2#8 } })
    t.regs.a = 0xE5#8 ∧ t.pc = 0x0101#16 ∧ t.flags = ⟨false, false, false, true, false⟩ := by decide

/-- 95_test_vectors.md O4: RRC. -/
theorem test_rrc :
    let t := ran (placed 0x0100#16 [0x0F#8] []
      { State.reset with regs := { State.reset.regs with a := 0x01#8 } })
    t.regs.a = 0x80#8 ∧ t.pc = 0x0101#16 ∧ t.flags = ⟨false, false, false, true, false⟩ := by decide

/-- 95_test_vectors.md O6: RAL. -/
theorem test_ral :
    let t := ran (placed 0x0100#16 [0x17#8] []
      { State.reset with regs := { State.reset.regs with a := 0x00#8 }, flags := { State.reset.flags with carry := true } })
    t.regs.a = 0x01#8 ∧ t.pc = 0x0101#16 ∧ t.flags = ⟨false, false, false, false, false⟩ := by decide

/-- 95_test_vectors.md O7: RAR. -/
theorem test_rar :
    let t := ran (placed 0x0100#16 [0x1F#8] []
      { State.reset with regs := { State.reset.regs with a := 0x6A#8 }, flags := { State.reset.flags with carry := true } })
    t.regs.a = 0xB5#8 ∧ t.pc = 0x0101#16 ∧ t.flags = ⟨false, false, false, false, false⟩ := by decide

/-- 95_test_vectors.md O9: CMA. -/
theorem test_cma :
    let t := ran (placed 0x0100#16 [0x2F#8] []
      { State.reset with regs := { State.reset.regs with a := 0x51#8 } })
    t.regs.a = 0xAE#8 ∧ t.pc = 0x0101#16 ∧ t.flags = ⟨false, false, false, false, false⟩ := by decide

/-- 95_test_vectors.md O10: CMC. -/
theorem test_cmc :
    let t := ran (placed 0x0100#16 [0x3F#8] []
      { State.reset with flags := { State.reset.flags with carry := true } })
    t.pc = 0x0101#16 ∧ t.flags = ⟨false, false, false, false, false⟩ := by decide

/-- 95_test_vectors.md O12: STC. -/
theorem test_stc :
    let t := ran (placed 0x0100#16 [0x37#8] []
      State.reset)
    t.pc = 0x0101#16 ∧ t.flags = ⟨false, false, false, true, false⟩ := by decide

/-- 95_test_vectors.md B1: JMP 0x1800. -/
theorem test_jmp :
    let t := ran (placed 0x0100#16 [0xC3#8, 0x00#8, 0x18#8] []
      State.reset)
    t.pc = 0x1800#16 ∧ t.flags = ⟨false, false, false, false, false⟩ := by decide

/-- 95_test_vectors.md B2: JNZ 0x3000. -/
theorem test_jnz_taken :
    let t := ran (placed 0x0100#16 [0xC2#8, 0x00#8, 0x30#8] []
      State.reset)
    t.pc = 0x3000#16 ∧ t.flags = ⟨false, false, false, false, false⟩ := by decide

/-- 95_test_vectors.md B3: JNZ 0x3000. -/
theorem test_jnz_not_taken :
    let t := ran (placed 0x0100#16 [0xC2#8, 0x00#8, 0x30#8] []
      { State.reset with flags := { State.reset.flags with zero := true } })
    t.pc = 0x0103#16 ∧ t.flags = ⟨true, false, false, false, false⟩ := by decide

/-- 95_test_vectors.md B13: JPE 0x3000. -/
theorem test_jpe_not_taken :
    let t := ran (placed 0x0100#16 [0xEA#8, 0x00#8, 0x30#8] []
      State.reset)
    t.pc = 0x0103#16 ∧ t.flags = ⟨false, false, false, false, false⟩ := by decide

/-- 95_test_vectors.md B19: CALL 0x3000. -/
theorem test_call_wraps :
    let t := ran (placed 0x0100#16 [0xCD#8, 0x00#8, 0x30#8] []
      { State.reset with sp := 0x0001#16 })
    t.pc = 0x3000#16 ∧ t.sp = 0xFFFF#16 ∧ t.flags = ⟨false, false, false, false, false⟩ ∧
    t.readByte 0x0000#16 = 0x01#8 ∧ t.readByte 0xFFFF#16 = 0x03#8 := by decide

/-- 95_test_vectors.md B21: CZ 0x0300. -/
theorem test_cz_not_taken :
    let t := ran (placed 0x0100#16 [0xCC#8, 0x00#8, 0x03#8] []
      { State.reset with sp := 0x2400#16 })
    t.pc = 0x0103#16 ∧ t.flags = ⟨false, false, false, false, false⟩ := by decide

/-- 95_test_vectors.md B22: CP 0x0300. -/
theorem test_cp_taken :
    let t := ran (placed 0x0100#16 [0xF4#8, 0x00#8, 0x03#8] []
      { State.reset with sp := 0x2400#16 })
    t.pc = 0x0300#16 ∧ t.sp = 0x23FE#16 ∧ t.flags = ⟨false, false, false, false, false⟩ ∧
    t.readByte 0x23FE#16 = 0x03#8 ∧ t.readByte 0x23FF#16 = 0x01#8 := by decide

/-- 95_test_vectors.md B24: RET. -/
theorem test_ret_wraps :
    let t := ran (placed 0x0100#16 [0xC9#8] [(0xFFFF, 0x34#8), (0x0000, 0x12#8)]
      { State.reset with sp := 0xFFFF#16 })
    t.pc = 0x1234#16 ∧ t.sp = 0x0001#16 ∧ t.flags = ⟨false, false, false, false, false⟩ := by decide

/-- 95_test_vectors.md B26: RNC. -/
theorem test_rnc_not_taken :
    let t := ran (placed 0x0100#16 [0xD0#8] [(0x23FE, 0x00#8), (0x23FF, 0x02#8)]
      { State.reset with sp := 0x23FE#16, flags := { State.reset.flags with carry := true } })
    t.pc = 0x0101#16 ∧ t.flags = ⟨false, false, false, true, false⟩ := by decide

/-- 95_test_vectors.md B27: RPE. -/
theorem test_rpe_taken :
    let t := ran (placed 0x0100#16 [0xE8#8] [(0x23FE, 0x00#8), (0x23FF, 0x02#8)]
      { State.reset with sp := 0x23FE#16, flags := { State.reset.flags with parity := true } })
    t.pc = 0x0200#16 ∧ t.sp = 0x2400#16 ∧ t.flags = ⟨false, false, true, false, false⟩ := by decide

/-- 95_test_vectors.md B28: RST 1. -/
theorem test_rst1 :
    let t := ran (placed 0x0123#16 [0xCF#8] []
      { State.reset with sp := 0x2400#16 })
    t.pc = 0x0008#16 ∧ t.sp = 0x23FE#16 ∧ t.flags = ⟨false, false, false, false, false⟩ ∧
    t.readByte 0x23FE#16 = 0x24#8 ∧ t.readByte 0x23FF#16 = 0x01#8 := by decide

/-- 95_test_vectors.md B31: PCHL. -/
theorem test_pchl :
    let t := ran (placed 0x0100#16 [0xE9#8] []
      { State.reset with regs := { State.reset.regs with h := 0x1A#8, l := 0x2B#8 } })
    t.pc = 0x1A2B#16 ∧ t.flags = ⟨false, false, false, false, false⟩ := by decide

/-- 95_test_vectors.md S2: PUSH HL. -/
theorem test_push_wraps :
    let t := ran (placed 0x0100#16 [0xE5#8] []
      { State.reset with regs := { State.reset.regs with h := 0xAB#8, l := 0xCD#8 }, sp := 0x0001#16 })
    t.pc = 0x0101#16 ∧ t.sp = 0xFFFF#16 ∧ t.flags = ⟨false, false, false, false, false⟩ ∧
    t.readByte 0x0000#16 = 0xAB#8 ∧ t.readByte 0xFFFF#16 = 0xCD#8 := by decide

/-- 95_test_vectors.md S5: PUSH PSW. -/
theorem test_push_psw_all_flags :
    let t := ran (placed 0x0100#16 [0xF5#8] []
      { State.reset with regs := { State.reset.regs with a := 0xFF#8 }, sp := 0x2400#16, flags := { State.reset.flags with zero := true, sign := true, parity := true, carry := true, auxCarry := true } })
    t.pc = 0x0101#16 ∧ t.sp = 0x23FE#16 ∧ t.flags = ⟨true, true, true, true, true⟩ ∧ t.readByte 0x23FE#16 = 0xFF#8 ∧
    t.readByte 0x23FF#16 = 0xD7#8 := by decide

/-- 95_test_vectors.md S6: POP HL. -/
theorem test_pop_hl :
    let t := ran (placed 0x0100#16 [0xE1#8] [(0x23FE, 0x34#8), (0x23FF, 0x12#8)]
      { State.reset with sp := 0x23FE#16 })
    t.regs.h = 0x12#8 ∧ t.regs.l = 0x34#8 ∧ t.pc = 0x0101#16 ∧ t.sp = 0x2400#16 ∧
    t.flags = ⟨false, false, false, false, false⟩ := by decide

/-- 95_test_vectors.md S7: POP PSW. -/
theorem test_pop_psw_discards_fixed_bits :
    let t := ran (placed 0x0100#16 [0xF1#8] [(0x23FE, 0x00#8), (0x23FF, 0xFF#8)]
      { State.reset with sp := 0x23FE#16 })
    t.pc = 0x0101#16 ∧ t.sp = 0x2400#16 ∧ t.flags = ⟨true, true, true, true, true⟩ := by decide

/-- 95_test_vectors.md S10: XTHL. -/
theorem test_xthl_wraps :
    let t := ran (placed 0x0100#16 [0xE3#8] [(0xFFFF, 0x78#8), (0x0000, 0x56#8)]
      { State.reset with regs := { State.reset.regs with h := 0x12#8, l := 0x34#8 }, sp := 0xFFFF#16 })
    t.regs.h = 0x56#8 ∧ t.regs.l = 0x78#8 ∧ t.pc = 0x0101#16 ∧ t.flags = ⟨false, false, false, false, false⟩ ∧
    t.readByte 0x0000#16 = 0x12#8 ∧ t.readByte 0xFFFF#16 = 0x34#8 := by decide

/-- 95_test_vectors.md S11: SPHL. -/
theorem test_sphl :
    let t := ran (placed 0x0100#16 [0xF9#8] []
      { State.reset with regs := { State.reset.regs with h := 0x50#8, l := 0x6C#8 } })
    t.pc = 0x0101#16 ∧ t.sp = 0x506C#16 ∧ t.flags = ⟨false, false, false, false, false⟩ := by decide

/-- 95_test_vectors.md I1: IN 1. -/
theorem test_in_latch :
    let t := ran (placed 0x0100#16 [0xDB#8, 0x01#8] []
      { State.reset with io := { State.reset.io with inputPort1 := 0x15#8 } })
    t.regs.a = 0x15#8 ∧ t.pc = 0x0102#16 ∧ t.flags = ⟨false, false, false, false, false⟩ := by decide

/-- 95_test_vectors.md I6: IN 3. -/
theorem test_in_shift_result :
    let t := ran (placed 0x0100#16 [0xDB#8, 0x03#8] []
      { State.reset with io := { State.reset.io with shiftRegister := 0x1234#16, shiftOffset := 7#3 } })
    t.regs.a = 0x1A#8 ∧ t.pc = 0x0102#16 ∧ t.flags = ⟨false, false, false, false, false⟩ := by decide

/-- 95_test_vectors.md I7: OUT 2. -/
theorem test_out_offset :
    let t := ran (placed 0x0100#16 [0xD3#8, 0x02#8] []
      { State.reset with regs := { State.reset.regs with a := 0xFC#8 } })
    t.pc = 0x0102#16 ∧ t.flags = ⟨false, false, false, false, false⟩ ∧ t.io.shiftOffset = 4#3 := by decide

/-- 95_test_vectors.md I8: OUT 4. -/
theorem test_out_shift :
    let t := ran (placed 0x0100#16 [0xD3#8, 0x04#8] []
      { State.reset with regs := { State.reset.regs with a := 0x12#8 }, io := { State.reset.io with shiftRegister := 0xFFAA#16 } })
    t.pc = 0x0102#16 ∧ t.flags = ⟨false, false, false, false, false⟩ ∧ t.io.shiftRegister = 0x12FF#16 := by decide

/-- 95_test_vectors.md I9: OUT 3. -/
theorem test_out_no_effect :
    let t := ran (placed 0x0100#16 [0xD3#8, 0x03#8] []
      { State.reset with regs := { State.reset.regs with a := 0x12#8 } })
    t.pc = 0x0102#16 ∧ t.flags = ⟨false, false, false, false, false⟩ := by decide

/-- 95_test_vectors.md M1: EI. -/
theorem test_ei :
    let t := ran (placed 0x0100#16 [0xFB#8] []
      State.reset)
    t.pc = 0x0101#16 ∧ t.flags = ⟨false, false, false, false, false⟩ ∧ t.interruptsEnabled = true := by decide

/-- 95_test_vectors.md M2: DI. -/
theorem test_di :
    let t := ran (placed 0x0100#16 [0xF3#8] []
      { State.reset with interruptsEnabled := true })
    t.pc = 0x0101#16 ∧ t.flags = ⟨false, false, false, false, false⟩ ∧ t.interruptsEnabled = false := by decide

/-- 95_test_vectors.md M3: HLT. -/
theorem test_hlt :
    let t := ran (placed 0x0100#16 [0x76#8] []
      State.reset)
    t.pc = 0x0101#16 ∧ t.flags = ⟨false, false, false, false, false⟩ ∧ t.halted = true := by decide

/-- 95_test_vectors.md M4: NOP. -/
theorem test_halted_step :
    let t := ran (placed 0x0100#16 [0x00#8] []
      { State.reset with halted := true })
    t.pc = 0x0100#16 ∧ t.flags = ⟨false, false, false, false, false⟩ := by decide

/-- 95_test_vectors.md M5: NOP. -/
theorem test_nop :
    let t := ran (placed 0x0100#16 [0x00#8] []
      State.reset)
    t.pc = 0x0101#16 ∧ t.flags = ⟨false, false, false, false, false⟩ := by decide

/-- 95_test_vectors.md M6: EI. -/
theorem test_ei_deferred :
    let t := ran (placed 0x0100#16 [0xFB#8] []
      { State.reset with params := { Params.specDefault with eiDeferred := true } })
    t.pc = 0x0101#16 ∧ t.flags = ⟨false, false, false, false, false⟩ ∧ t.eiPending = true := by decide

/-- 95_test_vectors.md F1: (unimpl 0x08). -/
theorem test_unimplemented08 :
    let t := ran (placed 0x0150#16 [0x08#8] []
      State.reset)
    t.pc = 0x0150#16 ∧ t.flags = ⟨false, false, false, false, false⟩ ∧
    t.fault = some { op := 0x08#8, addr := 0x0150#16 } := by decide

/-- 95_test_vectors.md F12: (unimpl 0xFD). -/
theorem test_unimplementedFD :
    let t := ran (placed 0x0150#16 [0xFD#8] []
      State.reset)
    t.pc = 0x0150#16 ∧ t.flags = ⟨false, false, false, false, false⟩ ∧
    t.fault = some { op := 0xFD#8, addr := 0x0150#16 } := by decide

/-! ## Witnesses: concrete data that meet every hypothesis of a statement -/

/-- A running state: NOP at 0x0100, IE true, EI_DEFERRED with an EI pending. -/
def running (op : Byte) : State :=
  placed 0x0100#16 [op] [] { State.reset with interruptsEnabled := true, eiPending := true,
                                              params := { Params.specDefault with eiDeferred := true } }

/-- A halted state. -/
def stopped : State := { State.reset with halted := true }

/-- A faulted state: 0x08 at 0x0150. -/
def faulted : State := ran (placed 0x0150#16 [0x08#8] [] State.reset)

theorem witness_EveryOpcodeByteIsExactlyOneRow : (encode .ret).head? = some 0xC9#8 := by decide

theorem witness_LengthIsAFunctionOfTheOpcodeByte : (encode (.mviA 0x00#8)).head? = (encode (.mviA 0xFF#8)).head? := by decide

theorem witness_PlacedTableWordRunsNext : decodeTableWord 24 0xFFFF32 = some (.sta 0xFFFF#16) := by decide

/-- A fault; halted; running NOP with an EI pending (it settles); running EI (it does not). -/
theorem witness_StepRunsTheDecodedInstruction :
    faulted.fault = some { op := 0x08#8, addr := 0x0150#16 } ∧ (stopped.fault = none ∧ stopped.halted = true) ∧
    (let s := running 0x00#8
     s.fault = none ∧ s.halted = false ∧ s.fetch = .nop ∧ s.params.eiDeferred = true ∧ s.readByte s.pc ≠ 0xFB#8 ∧
      s.eiPending = true) ∧
    (running 0xFB#8).readByte (running 0xFB#8).pc = 0xFB#8 := by decide

theorem witness_UnimplementedOpcodeRecordsItsReport :
    (running 0x08#8).fault = none ∧ (running 0x08#8).halted = false ∧
    unimplementedOpcodes.contains ((running 0x08#8).readByte (running 0x08#8).pc) = true ∧
    Instr.implemented .unimplementedFD = false := by decide

theorem witness_NoOtherSynchronousException : (running 0x08#8).fault = none ∧ (ran (running 0x08#8)).fault ≠ none := by decide

theorem witness_FaultedStateNeverChanges : faulted.fault ≠ none ∧ 7 ≤ 7 ∧
    runEvents [.host (.raiseInterrupt 3), .host (.readMemory 0x0150#16)] faulted = .next faulted := ⟨by decide, by decide, rfl⟩

theorem witness_SuccessfulEndIsFinal : stopped.SuccessfulEnd ∧
    ∃ t, runEvents [.cpu, .host (.raiseInterrupt 1), .host (.writeInput 2 0xFF#8), .cpu] stopped = .next t :=
  ⟨by decide, _, rfl⟩

theorem witness_InterruptEntryPushesPcAndVectors :
    7 ≤ 7 ∧ (running 0x00#8).fault = none ∧ (running 0x00#8).interruptsEnabled = true := by decide

theorem witness_RequestWithInterruptsDisabledIsDropped : 7 ≤ 7 ∧ stopped.interruptsEnabled = false := by decide

theorem witness_HostActionsTouchOnlyTheirLatch : 7 < 8 ∧ 2 < 3 ∧ stopped.fault = none := by decide

/-- The handler has run one NOP. -/
theorem witness_RetResumesAfterInterruptEntry : 7 ≤ 7 ∧ (running 0x00#8).fault = none ∧
    (running 0x00#8).interruptsEnabled = true ∧ ∃ t u : State, hostStep (.raiseInterrupt 7) (running 0x00#8) = .next t ∧
      u ≠ t ∧ u.sp = t.sp ∧ u.readByte u.sp = t.readByte u.sp ∧ u.readByte (u.sp + 1#16) = t.readByte (u.sp + 1#16) :=
  ⟨by decide, by decide, by decide, (running 0x00#8).enterInterrupt 7,
    ((running 0x00#8).enterInterrupt 7).advance 1, rfl, by decide, rfl, rfl, rfl⟩

/-- EI itself; NOP with an EI pending; DI with an EI pending. -/
theorem witness_DeferredEiTakesEffectAfterTheNextInstruction :
    (running 0xFB#8).readByte 0x0100#16 = 0xFB#8 ∧ (running 0xF3#8).readByte 0x0100#16 = 0xF3#8 ∧
    (let s := running 0x00#8
     s.fault = none ∧ s.halted = false ∧ s.params.eiDeferred = true ∧ s.eiPending = true ∧ s.readByte s.pc ≠ 0xFB#8 ∧
      unimplementedOpcodes.contains (s.readByte s.pc) = false) := by decide

theorem running_inv : (running 0x08#8).Inv := ⟨by decide, by decide, by intro r h; cases h⟩

theorem witness_StepKeepsTheInvariant : (running 0x08#8).Inv ∧ ∃ t, step (running 0x08#8) = .next t := ⟨running_inv, _, rfl⟩

theorem witness_EveryScheduleKeepsTheInvariant : (running 0x08#8).Inv ∧
    ∃ t, runEvents [.host (.writeInput 0 0x01#8), .host (.raiseInterrupt 7), .cpu] (running 0x08#8) = .next t :=
  ⟨running_inv, _, rfl⟩

/-- The longest image that fits, and the shortest that does not. -/
theorem witness_LaunchPlacesTheImage :
    (List.replicate 65536 0x76#8).length ≤ 65536 ∧ 65536 < (List.replicate 65537 0x76#8).length := by
  rw [List.length_replicate, List.length_replicate]; decide

theorem witness_CanonicalMemoriesThatReadAlikeAreEqual :
    ∃ m k : Memory, Memory.wf m ∧ Memory.wf k ∧ ∀ a, a < 65536 → Memory.read m a = Memory.read k a :=
  ⟨Memory.write [(7, 1#8)] 65535 0xFF#8, [(7, 1#8), (65535, 0xFF#8)], by decide, by decide, fun _ _ => rfl⟩

theorem nop_transfers_nothing : ¬ Transfers .nop := by
  rintro (⟨w, h | h⟩ | ⟨k, w, h | h⟩ | h | ⟨k, h⟩ | ⟨x, y, z, h⟩ | h) <;>
    first | cases h | (cases k <;> cases h) | (cases x <;> cases y <;> cases z <;> cases h)

theorem witness_PcAdvancesByLengthUnlessTransfer : (∃ t, exec .nop stopped = .next t) ∧ Instr.implemented .nop = true ∧
    ¬ Transfers .nop := ⟨⟨_, rfl⟩, rfl, nop_transfers_nothing⟩

theorem witness_DataTransfersWriteNoFlagAndNoDevice :
    DataTransfers .xchg ∧ DataTransfers (.movOf .m .a) ∧ (∃ t, exec .xchg stopped = .next t) ∧
    ∃ t, exec (.movOf .m .a) stopped = .next t := ⟨by simp [DataTransfers], .inl ⟨.m, .a, by decide, rfl⟩, ⟨_, rfl⟩, _, rfl⟩

theorem nop_writes_no_flag : ¬ WritesZSPAC .nop ∧ ¬ WritesCY .nop := by
  constructor
  · rintro (⟨k, r, h⟩ | ⟨k, v, h⟩ | ⟨r, h | h⟩ | h | h) <;>
      first | cases h | (cases k <;> cases h) | (cases r <;> cases h) | (cases k <;> cases r <;> cases h)
  · rintro (⟨k, r, h⟩ | ⟨k, v, h⟩ | ⟨p, h⟩ | h | h | h | h | h | h | h | h) <;>
      first | cases h | (cases p <;> cases h) | (cases k <;> cases h) | (cases k <;> cases r <;> cases h)

theorem witness_OnlyListedInstructionsWriteFlags :
    (∃ t, exec .nop stopped = .next t) ∧ ¬ WritesZSPAC .nop ∧ ¬ WritesCY .nop := ⟨⟨_, rfl⟩, nop_writes_no_flag⟩

/-- SHLD at the top of memory stores to 0xFFFF and 0x0000, not to 0x0001. -/
theorem witness_EveryByteOutsideTheStoredOnesIsUnchanged : (∃ t, exec (.shld 0xFFFF#16) stopped = .next t) ∧
    0x0001#16 ∉ storedAddresses (.shld 0xFFFF#16) stopped ∧ 0x0000#16 ∈ storedAddresses (.shld 0xFFFF#16) stopped := by
  refine ⟨⟨_, rfl⟩, ?_, ?_⟩ <;> decide

theorem witness_OnlyDestinationRegistersChange : (∃ t, exec .nop stopped = .next t) ∧ Reg8.b ≠ .m ∧ ¬ MayWriteReg .nop .b := by
  refine ⟨⟨_, rfl⟩, by decide, ?_⟩
  rintro (⟨r, h⟩ | ⟨v, h⟩ | h | h | ⟨h, -⟩ | ⟨-, ⟨w, h⟩ | h | h | h⟩ | ⟨h | h, -⟩ | ⟨h | h, -⟩) <;>
    first | cases h | (cases r <;> cases h)

theorem witness_OnlyListedInstructionsWriteSp : (∃ t, exec .nop stopped = .next t) ∧ ¬ WritesSP .nop stopped := by
  refine ⟨⟨_, rfl⟩, ?_⟩
  rintro (⟨w, h | h⟩ | h | h | h | ⟨p, h | h⟩ | h | ⟨k, w, h, -⟩ | ⟨k, h, -⟩ | ⟨x, y, z, h⟩) <;>
    first | cases h | (cases p <;> cases h) | (cases k <;> cases h) | (cases x <;> cases y <;> cases z <;> cases h)

theorem witness_ControlAndDeviceStateHasNoOtherInstructionWriter : (∃ t, exec .nop stopped = .next t) ∧
    Instr.nop ≠ .ei ∧ Instr.nop ≠ .di ∧ Instr.nop ≠ .hlt ∧ Instr.implemented .nop = true ∧
    Instr.nop ≠ .outPort 4#8 ∧ Instr.nop ≠ .outPort 2#8 ∧ ∀ p : Byte, 4 ≤ p.toNat → Instr.nop ≠ .inPort p := by
  refine ⟨⟨_, rfl⟩, ?_⟩
  simp [Instr.implemented]

/-- IN 4, the first port that is no latch and no shift result, and OUT 3. -/
theorem witness_DevicesAreSeenOnlyThroughTheirPorts :
    Instr.inPort 4#8 ≠ .inPort 3#8 ∧ Instr.inPort 4#8 ≠ .outPort 4#8 ∧
    Instr.outPort 3#8 ≠ .inPort 0#8 ∧ Instr.outPort 3#8 ≠ .inPort 1#8 ∧ Instr.outPort 3#8 ≠ .inPort 2#8 := by decide

theorem witness_MovAndMviWriteTheirOperand : ¬(Reg8.m = .m ∧ Reg8.a = .m) ∧ ¬(Reg8.h = .m ∧ Reg8.m = .m) := by decide

theorem witness_AddAndAdcGiveSumAndFiveFlags : stopped.flags.carry = false ∧ stopped.readReg .m = 0x00#8 := by decide

theorem witness_SubSbbAndCmpGiveDifferenceAndBorrow : stopped.flags.carry = false ∧ stopped.readReg .a = 0x00#8 := by decide

theorem witness_LogicalOperationsClearCarryAndAuxCarry :
    (AluOp.xra = .ana ∨ AluOp.xra = .xra ∨ AluOp.xra = .ora) ∧ stopped.readReg .m = 0x00#8 := by decide

theorem witness_DaaAdjustsByItsVariant : stopped.params.daaVariant = .docSequential ∧
    ({ stopped with params := { stopped.params with daaVariant := .intel8080 } } : State).params.daaVariant = .intel8080 := by decide

/-- 0 + 99 under the document's variant, 99 + 99 under the Intel variant. -/
theorem witness_DaaMakesAdditionDecimal : stopped.regs.a = bcd 0 ∧ 0 + 99 < 150 ∧
    (let s : State := { stopped with regs := { stopped.regs with a := 0x99#8 },
                                     params := { stopped.params with daaVariant := .intel8080 } }
     s.regs.a = bcd 99 ∧ s.params.daaVariant = .intel8080) := by decide

/-- Each condition taken and not taken, in one of two states. -/
theorem witness_CallsPushTheReturnAddress :
    (∀ k ∈ [Cond.nz, .nc, .po, .p], taken k stopped = true) ∧ ∀ k ∈ [Cond.z, .c, .pe, .m], taken k stopped = false := by decide

theorem witness_ReturnsPopThePc :
    let s : State := { stopped with flags := ⟨true, true, true, true, true⟩ }
    (∀ k ∈ [Cond.nz, .nc, .po, .p], taken k s = false) ∧ ∀ k ∈ [Cond.z, .c, .pe, .m], taken k s = true := by decide

theorem witness_PushStoresItsPairBelowSp : stopped.regs.b = 0x00#8 ∧ stopped.regs.c = 0x00#8 := by decide

theorem witness_InFromAnUnmappedPortGivesAFreeByte : 4 ≤ (4#8 : Byte).toNat ∧ 4 ≤ (255#8 : Byte).toNat := by decide

theorem witness_OutDrivesOnlyTheShiftHardware : (3#8 : Byte) ≠ 2#8 ∧ (3#8 : Byte) ≠ 4#8 := by decide

theorem witness_TwoShiftWritesReplaceTheRegister :
    ∃ t u : State, exec (.outPort 4#8) stopped = .next t ∧ u.io = t.io ∧ u.regs ≠ t.regs :=
  ⟨_, { ran (placed 0x0100#16 [0xD3#8, 0x04#8] [] State.reset) with regs := { stopped.regs with a := 0x01#8 } }, rfl, by decide,
    by decide⟩

theorem witness_MachineControlWritesItsFlag :
    stopped.params.eiDeferred = false ∧ (running 0x00#8).params.eiDeferred = true := by decide

theorem witness_StoredByteIsExecutedNext : (running 0x00#8).fault = none ∧ (running 0x00#8).halted = false ∧
    ∃ t, exec (.sta 0xFFFF#16) (running 0x00#8) = .next t := ⟨by decide, by decide, _, rfl⟩

/-- Halted; MVI A and NOP in machine cycles; a Ccond, an Rcond and a Jcond in T-states; an unimplemented byte. -/
theorem witness_SourceCycleCounts :
    (let s (op : Byte) : State := placed 0x0100#16 [op] [] State.reset
     (s 0x3E#8).opcode = 0x3E#8 ∧ (s 0x00#8).opcode = 0x00#8 ∧ (s 0x00#8).params.cycleUnit = .machineCycles ∧
      unimplementedOpcodes.contains (s 0xFD#8).opcode = true) ∧
    (let s (op : Byte) : State := placed 0x0100#16 [op] [] { State.reset with
        params := { Params.specDefault with cycleUnit := .tStates } }
     (s 0xC4#8).fetch = .ccondOf .nz 0x0000#16 ∧ (s 0xF8#8).fetch = .rcondOf .m ∧ (s 0xFA#8).fetch = .jcondOf .m 0x0000#16 ∧
      (s 0xFA#8).fault = none ∧ (s 0xFA#8).halted = false ∧ (s 0xFA#8).params.cycleUnit = .tStates) ∧
    stopped.fault = none ∧ stopped.halted = true := by decide

/-- Each kind of change happens: IE and ei_pending by EI, DI and a settling, IE, ei_pending and halted by an accepted interrupt,
halted by HLT, the shift hardware by OUT 4 and OUT 2, a latch by the host. -/
theorem witness_ControlAndDeviceStateChangesOnlyByItsMoves :
    (let s := placed 0x0100#16 [0xFB#8] [] State.reset
     s.params.eiDeferred = false ∧ (ran s).interruptsEnabled ≠ s.interruptsEnabled) ∧
    (let s : State := { running 0xFB#8 with eiPending := false }
     s.params.eiDeferred = true ∧ (ran s).eiPending ≠ s.eiPending) ∧
    (let s := running 0xF3#8
     (ran s).interruptsEnabled ≠ s.interruptsEnabled ∧ (ran s).eiPending ≠ s.eiPending) ∧
    (let s : State := { running 0x00#8 with interruptsEnabled := false }
     (ran s).interruptsEnabled ≠ s.interruptsEnabled ∧ (ran s).eiPending ≠ s.eiPending) ∧
    (let s : State := { running 0x00#8 with halted := true }
     let t := s.enterInterrupt 7
     systemStep (.host (.raiseInterrupt 7)) s = .next t ∧ t.interruptsEnabled ≠ s.interruptsEnabled ∧
      t.eiPending ≠ s.eiPending ∧ t.halted ≠ s.halted) ∧
    (ran (running 0x76#8)).halted ≠ (running 0x76#8).halted ∧
    (let s (p : Byte) : State := placed 0x0100#16 [0xD3#8, p] [] { State.reset with regs := { State.reset.regs with a := 0xFF#8 } }
     (ran (s 0x04#8)).io.shiftRegister ≠ (s 0x04#8).io.shiftRegister ∧
      (ran (s 0x02#8)).io.shiftOffset ≠ (s 0x02#8).io.shiftOffset) ∧
    (let t (k : Nat) := stopped.setInput k 0xFF#8
     systemStep (.host (.writeInput 0 0xFF#8)) stopped = .next (t 0) ∧ (t 0).io.inputPort0 ≠ stopped.io.inputPort0 ∧
      systemStep (.host (.writeInput 1 0xFF#8)) stopped = .next (t 1) ∧ (t 1).io.inputPort1 ≠ stopped.io.inputPort1 ∧
      systemStep (.host (.writeInput 2 0xFF#8)) stopped = .next (t 2) ∧ (t 2).io.inputPort2 ≠ stopped.io.inputPort2) :=
  ⟨by decide, by decide, by decide, by decide, ⟨rfl, by decide⟩, by decide, by decide,
    ⟨rfl, by decide, rfl, by decide, rfl, by decide⟩⟩

end Sys2Proof.Tests
end

section
/-! SUPPORT. Lengths by family, conditions, and what the shared operations leave of the registers and the flags (10_state.md
R31, R35, R37-R45). -/

namespace Sys2Proof.Machine

open Sys2Proof.Claims

/-! ## The length of each family (30_encoding.md R90) -/

@[simp] theorem length_movOf (dst src : Reg8) : (Instr.movOf dst src).length = 1 := by cases dst <;> cases src <;> rfl
@[simp] theorem length_mviOf (k : Reg8) (v : Byte) : (Instr.mviOf k v).length = 2 := by cases k <;> rfl
@[simp] theorem length_inrOf (k : Reg8) : (Instr.inrOf k).length = 1 := by cases k <;> rfl
@[simp] theorem length_dcrOf (k : Reg8) : (Instr.dcrOf k).length = 1 := by cases k <;> rfl
@[simp] theorem length_lxiOf (p : RegPair) (w : Word) : (Instr.lxiOf p w).length = 3 := by cases p <;> rfl
@[simp] theorem length_inxOf (p : RegPair) : (Instr.inxOf p).length = 1 := by cases p <;> rfl
@[simp] theorem length_dcxOf (p : RegPair) : (Instr.dcxOf p).length = 1 := by cases p <;> rfl
@[simp] theorem length_dadOf (p : RegPair) : (Instr.dadOf p).length = 1 := by cases p <;> rfl
@[simp] theorem length_aluOf (k : AluOp) (r : Reg8) : (Instr.aluOf k r).length = 1 := by cases k <;> cases r <;> rfl
@[simp] theorem length_aluImmOf (k : AluOp) (v : Byte) : (Instr.aluImmOf k v).length = 2 := by cases k <;> rfl
@[simp] theorem length_pushOf (p : StackPair) : (Instr.pushOf p).length = 1 := by cases p <;> rfl
@[simp] theorem length_popOf (p : StackPair) : (Instr.popOf p).length = 1 := by cases p <;> rfl

@[simp] theorem length_inPort (v : Byte) : (Instr.inPort v).length = 2 := rfl
@[simp] theorem length_outPort (v : Byte) : (Instr.outPort v).length = 2 := rfl

/-! ## Conditions -/

/-- The condition as the claims state it (a flag and the value wanted) is the model's own (42_branch.md R210). -/
theorem taken_eq_holds (k : Cond) (s : State) : taken k s = k.holds s.flags := by
  cases k <;> simp [taken, condFlag, condWanted, Cond.holds]

/-! ## General registers -/

/-- Whatever leaves the register file alone leaves every operand but M alone. -/
theorem readReg_eq_of_regs_eq {s t : State} (h : t.regs = s.regs) {x : Reg8} (hx : x ≠ .m) :
    t.readReg x = s.readReg x := by
  cases x <;> first | exact absurd rfl hx | simp [State.readReg, h]

/-- Whatever writes A only leaves every other operand but M alone. -/
theorem readReg_eq_of_regs_eq_set_a {s t : State} {v : Byte} (h : t.regs = { s.regs with a := v }) {x : Reg8}
    (ha : x ≠ .a) (hm : x ≠ .m) : t.readReg x = s.readReg x := by
  cases x <;> first | exact absurd rfl hm | exact absurd rfl ha | simp [State.readReg, h]

@[simp] theorem State.readReg_advance (s : State) (n : Nat) (x : Reg8) : (s.advance n).readReg x = s.readReg x := by
  cases x <;> rfl

/-- The register `x` is a half of the pair `p` (10_state.md R35). -/
def RegPair.hasHalf (p : RegPair) (x : Reg8) : Prop :=
  match p with
  | .bc => x = .b ∨ x = .c
  | .de => x = .d ∨ x = .e
  | .hl => x = .h ∨ x = .l
  | .sp => False

theorem State.readReg_writePair_ne (s : State) (p : RegPair) (v : Word) {x : Reg8} (hx : ¬ p.hasHalf x) (hm : x ≠ .m) :
    (s.writePair p v).readReg x = s.readReg x := by
  cases p <;> cases x <;> first | rfl | exact absurd rfl hm | exact absurd (.inl rfl) hx | exact absurd (.inr rfl) hx

theorem State.writePair_sp_ne (s : State) {p : RegPair} (v : Word) (hp : p ≠ .sp) : (s.writePair p v).sp = s.sp := by
  cases p <;> first | rfl | exact absurd rfl hp

/-- CMP writes no register (41_arith_logic_rotate.md R186-R188). -/
@[simp] theorem State.aluApply_cmp_regs (s : State) (v : Byte) : (aluApply .cmp v s).regs = s.regs := rfl

/-- Every ALU operation writes A at most. -/
theorem State.aluApply_regs (s : State) (k : AluOp) (v : Byte) :
    ∃ r, (aluApply k v s).regs = { s.regs with a := r } := by
  cases k <;> exact ⟨_, rfl⟩

/-! ## Flags and popped values -/

/-- What POP does with a high and a low byte, pair by pair (43_stack_io_machine.md R234, R235). -/
theorem State.writeStackPair_concat16 (s : State) (h l : Byte) :
    s.writeStackPair .bc (concat16 h l) = { s with regs := { s.regs with b := h, c := l } } ∧
    s.writeStackPair .de (concat16 h l) = { s with regs := { s.regs with d := h, e := l } } ∧
    s.writeStackPair .hl (concat16 h l) = { s with regs := { s.regs with h := h, l := l } } ∧
    s.writeStackPair .psw (concat16 h l) = { s with regs := { s.regs with a := l }, flags := Flags.ofByte h } := by
  simp [State.writeStackPair, State.writePair]

/-- POP BC, DE, HL write no flag. -/
theorem State.writeStackPair_flags_ne (s : State) {p : StackPair} (v : Word) (hp : p ≠ .psw) :
    (s.writeStackPair p v).flags = s.flags := by
  cases p <;> first | rfl | exact absurd rfl hp

/-- INR and DCR leave CY (41_arith_logic_rotate.md R167-R170). -/
@[simp] theorem Flags.incDec_carry (f : Flags) (r : AluOut) : (f.incDec r).carry = f.carry := rfl

/-- The flag byte bit by bit: S Z 0 AC 0 P 1 CY (10_state.md R44). -/
theorem Flags.toByte_bits (f : Flags) :
    f.toByte.getLsbD 7 = f.sign ∧ f.toByte.getLsbD 6 = f.zero ∧ f.toByte.getLsbD 5 = false ∧
    f.toByte.getLsbD 4 = f.auxCarry ∧ f.toByte.getLsbD 3 = false ∧ f.toByte.getLsbD 2 = f.parity ∧
    f.toByte.getLsbD 1 = true ∧ f.toByte.getLsbD 0 = f.carry := by
  obtain ⟨z, s, p, c, ac⟩ := f
  revert z s p c ac; decide

end Sys2Proof.Machine
end

section
/-! SUPPORT. The opcode byte of the instruction fetched, and every writer of the control and device state among the
instructions and the moves (10_state.md R46-R54; 30_encoding.md R99; 60_exceptions.md R290-R292, R306). -/

namespace Sys2Proof.Machine

open Sys2Proof.Claims

/-! ## The opcode byte of the instruction fetched -/

/-- A byte by its bits, most significant first. -/
def byteOfBits (b7 b6 b5 b4 b3 b2 b1 b0 : Bool) : Byte :=
  BitVec.ofNat 8 (128 * b7.toNat + 64 * b6.toNat + 32 * b5.toNat + 16 * b4.toNat + 8 * b3.toNat + 4 * b2.toNat
    + 2 * b1.toNat + b0.toNat)

set_option maxRecDepth 10000 in
theorem byteOfBits_getLsbD (b : Byte) :
    byteOfBits (b.getLsbD 7) (b.getLsbD 6) (b.getLsbD 5) (b.getLsbD 4) (b.getLsbD 3) (b.getLsbD 2) (b.getLsbD 1)
      (b.getLsbD 0) = b := by
  revert b; apply byte_cases; decide

/-- The encoding of what the decoder reads from eight bits begins with those bits (30_encoding.md R91, R100). -/
theorem head_encode_ofOpcodeBits (b7 b6 b5 b4 b3 b2 b1 b0 : Bool) (x : Byte) (w : Word) :
    (encode (.ofOpcodeBits b7 b6 b5 b4 b3 b2 b1 b0 x w)).head? = some (byteOfBits b7 b6 b5 b4 b3 b2 b1 b0) := by
  cases b7 <;> cases b6 <;> cases b5 <;> cases b4 <;> cases b3 <;> cases b2 <;> cases b1 <;> cases b0 <;> rfl

/-- The encoding of what the decoder reads from an opcode byte begins with that byte. -/
theorem head_encode_decodeOpcode (b x : Byte) (w : Word) : (encode (decodeOpcode b x w)).head? = some b := by
  rw [decodeOpcode, head_encode_ofOpcodeBits, byteOfBits_getLsbD]

theorem opcode_of_fetch {s : State} {i : Instr} {b : Byte} (hi : s.fetch = i) (hb : (encode i).head? = some b) :
    s.opcode = b := by
  have h := head_encode_decodeOpcode s.opcode (s.readByte (s.pc + 1#16))
    (concat16 (s.readByte (s.pc + 2#16)) (s.readByte (s.pc + 1#16)))
  rw [← State.fetch, hi, hb] at h
  exact (Option.some.inj h).symm

theorem fetch_of_opcode_di {s : State} (h : s.opcode = 0xF3#8) : s.fetch = .di := by
  rw [State.fetch, h]; rfl

/-- The port of a fetched OUT is the byte after the opcode (30_encoding.md R93). -/
theorem port_of_fetch_outPort {s : State} {p : Byte} (h : s.fetch = .outPort p) : s.readByte (s.pc + 1#16) = p := by
  have ho : s.opcode = 0xD3#8 := opcode_of_fetch h rfl
  rw [State.fetch, ho] at h
  exact Instr.outPort.inj h

/-! ## What an instruction does to the control and device state -/

/-- IE, ei_pending, halted, the fault, the shim, the parameters and the count of free values are as before. -/
structure SameControl (s t : State) : Prop where
  interruptsEnabled : t.interruptsEnabled = s.interruptsEnabled
  eiPending : t.eiPending = s.eiPending
  halted : t.halted = s.halted
  fault : t.fault = s.fault
  io : t.io = s.io
  params : t.params = s.params
  draws : t.draws = s.draws

/-- The instructions that write control or device state, each with its next state; any other leaves it alone. -/
inductive ControlEffect (s : State) : Instr → State → Prop where
  | none {i : Instr} {t : State} (same : SameControl s t) : ControlEffect s i t
  | ei (now : s.params.eiDeferred = false) : ControlEffect s .ei ({ s with interruptsEnabled := true }.advance 1)
  | eiLater (later : s.params.eiDeferred = true) : ControlEffect s .ei ({ s with eiPending := true }.advance 1)
  | di : ControlEffect s .di ({ s with interruptsEnabled := false, eiPending := false }.advance 1)
  | hlt : ControlEffect s .hlt ({ s with halted := true }.advance 1)
  | inPort (p : Byte) :
      ControlEffect s (.inPort p) ((({ s with regs := { s.regs with a := s.portIn p } }).countDraw p).advance 2)
  | outPort (p : Byte) : ControlEffect s (.outPort p) ((s.portOut p s.regs.a).advance 2)
  | unimplemented {i : Instr} (op : Byte) (hi : i.implemented = false) : ControlEffect s i (s.recordUnimplemented op)

theorem State.countDraw_mapped (s : State) {p : Byte} (h : p.toNat < 4) : s.countDraw p = s := if_pos h

theorem exec_controlEffect {i : Instr} {s t : State} (h : exec i s = .next t) : ControlEffect s i t := by
  apply exec_next (Q := fun i s t => ControlEffect s i t) h
  case ei =>
    split
    · next h => exact .eiLater h
    · next h => exact .ei (by simpa using h)
  case di => exact .di
  case hlt => exact .hlt
  case inPort => exact .inPort
  case outPort => exact .outPort
  case unimplemented => exact fun _ op hj _ => .unimplemented op hj
  case jcond | ccond | rcond => intros; apply ControlEffect.none; split <;> constructor <;> rfl
  case xchg | daa | rlc | rrc | ral | rar => intro t ht; cases ht; apply ControlEffect.none; constructor <;> rfl
  all_goals intros; apply ControlEffect.none; constructor <;> simp

/-! ## Control and device state over a move -/

/-- OUT 4: the byte over the old high byte (44_arcade_io_shim.md R267). -/
theorem Shim.shiftIn_shiftRegister (x : Shim) (v : Byte) :
    (x.shiftIn v).shiftRegister = pairOf v (high x.shiftRegister) := by
  have hlow : x.shiftRegister.toNat / 256 < 2 ^ 8 := by have := x.shiftRegister.isLt; omega
  have hor : v.toNat <<< 8 ||| x.shiftRegister.toNat / 256 = v.toNat * 256 + x.shiftRegister.toNat / 256 := by
    rw [Nat.shiftLeft_eq, mul_comm, ← Nat.two_pow_add_eq_or_of_lt hlow v.toNat, mul_comm]
  have hhigh : (high x.shiftRegister).toNat = x.shiftRegister.toNat / 256 := by
    simp only [high, BitVec.toNat_ofNat]; omega
  rw [pairOf, hhigh, ← hor, Shim.shiftIn, Nat.shiftRight_eq_div_pow]

/-- No instruction writes the parameters. -/
theorem exec_params {i : Instr} {s u : State} (h : exec i s = .next u) : u.params = s.params := by
  cases exec_controlEffect h with
  | none same => exact same.params
  | ei | eiLater | di | hlt | unimplemented => rfl
  | inPort p | outPort p => simp

/-- The shim is written by OUT only. -/
theorem exec_io {i : Instr} {s t : State} (h : exec i s = .next t) (hout : ∀ p, i ≠ .outPort p) : t.io = s.io := by
  cases exec_controlEffect h with
  | none same => exact same.io
  | ei | eiLater | di | hlt | unimplemented => rfl
  | inPort p => simp
  | outPort p => exact absurd rfl (hout p)

section
variable {s u : State} (h : exec s.fetch s = .next u)
include h

theorem exec_fetch_interruptsEnabled (hne : u.interruptsEnabled ≠ s.interruptsEnabled) :
    (s.opcode = 0xFB#8 ∧ s.params.eiDeferred = false ∧ u.interruptsEnabled = true) ∨
    (s.opcode = 0xF3#8 ∧ u.interruptsEnabled = false) := by
  generalize hi : s.fetch = i at h
  cases exec_controlEffect h with
  | none same => exact absurd same.interruptsEnabled hne
  | ei now => exact .inl ⟨opcode_of_fetch hi rfl, now, rfl⟩
  | di => exact .inr ⟨opcode_of_fetch hi rfl, rfl⟩
  | eiLater | hlt | unimplemented => exact absurd rfl hne
  | inPort p | outPort p => exact absurd (by simp) hne

theorem exec_fetch_eiPending (hne : u.eiPending ≠ s.eiPending) :
    (s.opcode = 0xFB#8 ∧ s.params.eiDeferred = true ∧ u.eiPending = true) ∨
    (s.opcode = 0xF3#8 ∧ u.eiPending = false) := by
  generalize hi : s.fetch = i at h
  cases exec_controlEffect h with
  | none same => exact absurd same.eiPending hne
  | eiLater later => exact .inl ⟨opcode_of_fetch hi rfl, later, rfl⟩
  | di => exact .inr ⟨opcode_of_fetch hi rfl, rfl⟩
  | ei | hlt | unimplemented => exact absurd rfl hne
  | inPort p | outPort p => exact absurd (by simp) hne

theorem exec_fetch_halted (hne : u.halted ≠ s.halted) : s.opcode = 0x76#8 ∧ u.halted = true := by
  generalize hi : s.fetch = i at h
  cases exec_controlEffect h with
  | none same => exact absurd same.halted hne
  | hlt => exact ⟨opcode_of_fetch hi rfl, rfl⟩
  | ei | eiLater | di | unimplemented => exact absurd rfl hne
  | inPort p | outPort p => exact absurd (by simp) hne

/-- The shim changes only by OUT, which passes A to the port in the byte after the opcode. -/
theorem exec_fetch_io (hne : u.io ≠ s.io) :
    s.opcode = 0xD3#8 ∧ u.io = (s.portOut (s.readByte (s.pc + 1#16)) s.regs.a).io := by
  generalize hi : s.fetch = i at h
  cases exec_controlEffect h with
  | none same => exact absurd same.io hne
  | ei | eiLater | di | hlt | unimplemented => exact absurd rfl hne
  | inPort p => exact absurd (by simp) hne
  | outPort p => exact ⟨opcode_of_fetch hi rfl, by rw [port_of_fetch_outPort hi]; rfl⟩

theorem exec_fetch_shiftRegister (hne : u.io.shiftRegister ≠ s.io.shiftRegister) :
    s.opcode = 0xD3#8 ∧ s.readByte (s.pc + 1#16) = 0x04#8 ∧
      u.io.shiftRegister = pairOf s.regs.a (high s.io.shiftRegister) := by
  obtain ⟨ho, hio⟩ := exec_fetch_io h (fun he => hne (by rw [he]))
  rw [hio] at hne ⊢
  rcases s.portOut_cases (s.readByte (s.pc + 1#16)) s.regs.a with ⟨-, hs⟩ | ⟨hp, hs⟩ | ⟨-, -, hs⟩
  · exact absurd (by rw [hs]; rfl) hne
  · exact ⟨ho, hp, by rw [hs]; exact Shim.shiftIn_shiftRegister s.io s.regs.a⟩
  · exact absurd (by rw [hs]) hne

theorem exec_fetch_shiftOffset (hne : u.io.shiftOffset ≠ s.io.shiftOffset) :
    s.opcode = 0xD3#8 ∧ s.readByte (s.pc + 1#16) = 0x02#8 ∧ u.io.shiftOffset.toNat = s.regs.a.toNat % 8 := by
  obtain ⟨ho, hio⟩ := exec_fetch_io h (fun he => hne (by rw [he]))
  rw [hio] at hne ⊢
  rcases s.portOut_cases (s.readByte (s.pc + 1#16)) s.regs.a with ⟨hp, hs⟩ | ⟨-, hs⟩ | ⟨-, -, hs⟩
  · exact ⟨ho, hp, by rw [hs]; exact BitVec.toNat_setWidth 3 s.regs.a⟩
  · exact absurd (by rw [hs]; rfl) hne
  · exact absurd (by rw [hs]) hne

/-- After DI nothing is pending. -/
theorem exec_fetch_di (ho : s.opcode = 0xF3#8) : u.eiPending = false := by
  rw [fetch_of_opcode_di ho] at h
  cases h; rfl

/-- Where an EI settles, the instruction was neither EI nor DI, EI_DEFERRED is set, and the EI was pending before it. -/
theorem settleEi_after_exec :
    (s.opcode ≠ 0xFB#8 ∧ s.opcode ≠ 0xF3#8 ∧ s.params.eiDeferred = true ∧ s.eiPending = true ∧
      u.settleEi s.opcode = { u with interruptsEnabled := true, eiPending := false }) ∨ u.settleEi s.opcode = u := by
  rcases u.settleEi_cases s.opcode with ⟨-, hd, hop, hp, hu⟩ | ⟨-, hu⟩
  · have hdi : s.opcode ≠ 0xF3#8 := fun ho => by
      have := exec_fetch_di h ho
      simp [hp] at this
    have hpending : s.eiPending = true := by
      by_contra hs
      rcases exec_fetch_eiPending h (by simpa [hp] using hs) with ⟨ho, -⟩ | ⟨ho, -⟩
      · exact hop ho
      · exact hdi ho
    exact .inl ⟨hop, hdi, exec_params h ▸ hd, hpending, hu⟩
  · exact .inr hu

/-! The same after the settling of a pending EI, which `step` adds. -/

theorem settled_interruptsEnabled (hne : (u.settleEi s.opcode).interruptsEnabled ≠ s.interruptsEnabled) :
    (s.opcode = 0xFB#8 ∧ s.params.eiDeferred = false ∧ (u.settleEi s.opcode).interruptsEnabled = true) ∨
    (s.opcode = 0xF3#8 ∧ (u.settleEi s.opcode).interruptsEnabled = false) ∨
    (s.opcode ≠ 0xFB#8 ∧ s.opcode ≠ 0xF3#8 ∧ s.params.eiDeferred = true ∧ s.eiPending = true ∧
      (u.settleEi s.opcode).interruptsEnabled = true) := by
  rcases settleEi_after_exec h with ⟨hei, hdi, hd, hp, hu⟩ | hu
  · exact .inr (.inr ⟨hei, hdi, hd, hp, by rw [hu]⟩)
  · rw [hu] at hne ⊢
    exact (exec_fetch_interruptsEnabled h hne).imp_right .inl

theorem settled_eiPending (hne : (u.settleEi s.opcode).eiPending ≠ s.eiPending) :
    (s.opcode = 0xFB#8 ∧ s.params.eiDeferred = true ∧ (u.settleEi s.opcode).eiPending = true) ∨
    (s.opcode = 0xF3#8 ∧ (u.settleEi s.opcode).eiPending = false) ∨
    (s.opcode ≠ 0xFB#8 ∧ s.opcode ≠ 0xF3#8 ∧ s.params.eiDeferred = true ∧ (u.settleEi s.opcode).eiPending = false ∧
      (u.settleEi s.opcode).interruptsEnabled = true) := by
  rcases settleEi_after_exec h with ⟨hei, hdi, hd, -, hu⟩ | hu
  · exact .inr (.inr ⟨hei, hdi, hd, by rw [hu], by rw [hu]⟩)
  · rw [hu] at hne ⊢
    exact (exec_fetch_eiPending h hne).imp_right .inl

end

/-- A host write changes the latch of its index at most, to the byte written. -/
theorem State.setInput_changes (s : State) (k : Nat) (v : Byte) :
    ((s.setInput k v).io.inputPort0 ≠ s.io.inputPort0 → k = 0 ∧ (s.setInput k v).io.inputPort0 = v) ∧
    ((s.setInput k v).io.inputPort1 ≠ s.io.inputPort1 → k = 1 ∧ (s.setInput k v).io.inputPort1 = v) ∧
    ((s.setInput k v).io.inputPort2 ≠ s.io.inputPort2 → k = 2 ∧ (s.setInput k v).io.inputPort2 = v) := by
  unfold State.setInput
  split <;> simp

theorem State.setInput_shiftHardware (s : State) (k : Nat) (v : Byte) :
    (s.setInput k v).io.shiftRegister = s.io.shiftRegister ∧ (s.setInput k v).io.shiftOffset = s.io.shiftOffset := by
  unfold State.setInput
  split <;> simp

/-- Every move of the system that has a next state, as it acts on the control and device state: it changes nothing; it executes
the instruction at pc and settles a pending EI; the host writes a latch; or an interrupt is accepted. -/
theorem systemStep_cases {e : Event} {s t : State} (h : systemStep e s = .next t) :
    t = s ∨
    (e = .cpu ∧ s.fault = none ∧ s.halted = false ∧ ∃ u, exec s.fetch s = .next u ∧ t = u.settleEi s.opcode) ∨
    (∃ k v, e = .host (.writeInput k v) ∧ s.fault = none ∧ t = s.setInput k v) ∨
    (AcceptsInterrupt e s ∧ ∃ n, t = s.enterInterrupt n) := by
  cases e with
  | cpu =>
    obtain ⟨hf, ⟨-, ht⟩ | ⟨hh, hu⟩⟩ := step_cases h
    · exact .inl ht
    · exact .inr (.inl ⟨rfl, hf, hh, hu⟩)
  | host action =>
    cases action with
    | readMemory a => cases h; exact .inl rfl
    | writeInput k v =>
      simp only [systemStep, hostStep, writeInput] at h
      split at h
      · split at h
        · cases h
        · next hf => cases h; exact .inr (.inr (.inl ⟨k, v, rfl, hf, rfl⟩))
      · cases h
    | raiseInterrupt n =>
      simp only [systemStep, hostStep, raiseInterrupt] at h
      split at h
      · next hn =>
        cases h
        rcases s.requestInterrupt_cases n with ⟨hf, hie, ht⟩ | ⟨-, ht⟩
        · exact .inr (.inr (.inr ⟨⟨hf, hie, n, of_decide_eq_true hn, rfl⟩, n, ht⟩))
        · exact .inl ht
      · cases h

/-- A faulted state has no move that changes it (10_state.md R49; log 15). -/
theorem systemStep_faulted {e : Event} {s t : State} (hs : s.fault ≠ none) (h : systemStep e s = .next t) : t = s := by
  rcases systemStep_cases h with ht | ⟨-, hf, -⟩ | ⟨k, v, -, hf, -⟩ | ⟨⟨hf, -⟩, -⟩
  · exact ht
  all_goals exact absurd hf hs

end Sys2Proof.Machine
end

section
/-! SUPPORT. The shim is seen through IN and OUT only (44_arcade_io_shim.md R260-R265). -/

namespace Sys2Proof.Machine

open Sys2Proof.Claims

/-- `s` with another shim. -/
def State.withIo (s : State) (y : Shim) : State := { s with io := y }

@[simp] theorem State.withIo_flags (s : State) (y : Shim) : (s.withIo y).flags = s.flags := rfl
@[simp] theorem State.withIo_params (s : State) (y : Shim) : (s.withIo y).params = s.params := rfl

@[simp] theorem State.readReg_withIo (s : State) (y : Shim) (r : Reg8) : (s.withIo y).readReg r = s.readReg r := by
  cases r <;> rfl
@[simp] theorem State.readPair_withIo (s : State) (y : Shim) (p : RegPair) : (s.withIo y).readPair p = s.readPair p := by
  cases p <;> rfl
@[simp] theorem State.readStackPair_withIo (s : State) (y : Shim) (p : StackPair) :
    (s.withIo y).readStackPair p = s.readStackPair p := by
  cases p <;> rfl

@[simp] theorem State.writeReg_withIo (s : State) (y : Shim) (r : Reg8) (v : Byte) :
    (s.withIo y).writeReg r v = (s.writeReg r v).withIo y := by
  cases r <;> rfl
@[simp] theorem State.writePair_withIo (s : State) (y : Shim) (p : RegPair) (v : Word) :
    (s.withIo y).writePair p v = (s.writePair p v).withIo y := by
  cases p <;> rfl
@[simp] theorem State.writeStackPair_withIo (s : State) (y : Shim) (p : StackPair) (v : Word) :
    (s.withIo y).writeStackPair p v = (s.writeStackPair p v).withIo y := by
  cases p <;> rfl
@[simp] theorem State.aluApply_withIo (s : State) (y : Shim) (k : AluOp) (v : Byte) :
    aluApply k v (s.withIo y) = (aluApply k v s).withIo y := by
  cases k <;> rfl
@[simp] theorem State.advance_withIo (s : State) (y : Shim) (n : Nat) :
    (s.withIo y).advance n = (s.advance n).withIo y := rfl
@[simp] theorem State.push16_withIo (s : State) (y : Shim) (v : Word) :
    (s.withIo y).push16 v = (s.push16 v).withIo y := rfl
@[simp] theorem State.drop16_withIo (s : State) (y : Shim) : (s.withIo y).drop16 = s.drop16.withIo y := rfl
@[simp] theorem State.top16_withIo (s : State) (y : Shim) : (s.withIo y).top16 = s.top16 := rfl

/-- An instruction other than IN and OUT does the same whatever the shim holds. -/
theorem exec_withIo {i : Instr} {s t : State} (y : Shim) (h : exec i s = .next t) (hin : ∀ p, i ≠ .inPort p)
    (hout : ∀ p, i ≠ .outPort p) : exec i (s.withIo y) = .next (t.withIo y) := by
  revert hin hout
  apply exec_next (Q := fun i s t => (∀ p, i ≠ .inPort p) → (∀ p, i ≠ .outPort p) →
    exec i (s.withIo y) = .next (t.withIo y)) h
  case inPort => exact fun p hin _ => absurd rfl (hin p)
  case outPort => exact fun p _ hout => absurd rfl (hout p)
  case mov => intro dst src hd _ _; simp [exec_movOf _ _ hd, movReg]
  case mvi => intros; simp [exec_mviOf, mviReg]
  case inr => intros; rw [exec_inrOf, inrReg, State.readReg_withIo, State.writeReg_withIo]; rfl
  case dcr => intros; rw [exec_dcrOf, dcrReg, State.readReg_withIo, State.writeReg_withIo]; rfl
  case lxi => intros; simp [exec_lxiOf, lxiPair]
  case inx => intros; simp [exec_inxOf, inxPair]
  case dcx => intros; simp [exec_dcxOf, dcxPair]
  case dad => intros; rw [exec_dadOf, dadPair, State.readPair_withIo, State.writePair_withIo]; rfl
  case alu => intros; simp [exec_aluOf, aluReg]
  case aluImm => intros; simp [exec_aluImmOf, aluImm]
  case push => intros; simp [exec_pushOf, pushPair]
  case pop => intros; simp [exec_popOf, popPair]
  case rst => intros; rw [exec_rstOfBits]; rfl
  case jcond => intros; rw [exec_jcondOf, jumpIf, State.withIo_flags]; split <;> rfl
  case ccond => intros; rw [exec_ccondOf, callIf, State.withIo_flags]; split <;> rfl
  case rcond => intros; rw [exec_rcondOf, retIf, State.withIo_flags]; split <;> rfl
  case unimplemented =>
    intro j op hj he _ _
    obtain ⟨op', he', hx⟩ := exec_unimplemented j hj (s.withIo y)
    rw [he] at he'; cases he'
    exact hx
  case ei => intros; change execEi (s.withIo y) = _; rw [execEi, State.withIo_params]; split <;> rfl
  case xchg | daa | rlc | rrc | ral | rar => intro t ht _ _; cases ht; rfl
  all_goals intros; rfl

theorem withShift_eq_withIo (x : Word) (s : State) : withShift x s = s.withIo { s.io with shiftRegister := x } := rfl
theorem withInputs_eq_withIo (x y z : Byte) (s : State) :
    withInputs x y z s = s.withIo { s.io with inputPort0 := x, inputPort1 := y, inputPort2 := z } := rfl

/-- Only port 3 reads the shift register (44_arcade_io_shim.md R262). -/
theorem State.portIn_withShift (x : Word) (s : State) {p : Byte} (h : p ≠ 3#8) : (withShift x s).portIn p = s.portIn p := by
  unfold State.portIn
  split
  case h_4 h3 => exact absurd (BitVec.eq_of_toNat_eq h3) h
  all_goals rfl

/-- Only ports 0, 1 and 2 read an input latch (44_arcade_io_shim.md R261). -/
theorem State.portIn_withInputs (x y z : Byte) (s : State) {p : Byte} (h0 : p ≠ 0#8) (h1 : p ≠ 1#8) (h2 : p ≠ 2#8) :
    (withInputs x y z s).portIn p = s.portIn p := by
  unfold State.portIn
  split
  case h_1 h => exact absurd (BitVec.eq_of_toNat_eq h) h0
  case h_2 h => exact absurd (BitVec.eq_of_toNat_eq h) h1
  case h_3 h => exact absurd (BitVec.eq_of_toNat_eq h) h2
  all_goals rfl

theorem State.countDraw_withIo (s : State) (y : Shim) (p : Byte) : (s.withIo y).countDraw p = (s.countDraw p).withIo y := by
  unfold State.countDraw
  split <;> rfl

/-- IN does the same with a shim that gives its port the same byte. -/
theorem exec_inPort_withIo {s : State} {y : Shim} {p : Byte} (hp : (s.withIo y).portIn p = s.portIn p) :
    exec (.inPort p) (s.withIo y) =
      .next (((({ s with regs := { s.regs with a := s.portIn p } }).countDraw p).advance 2).withIo y) := by
  change execInPort p (s.withIo y) = _
  rw [execInPort, hp]
  exact congrArg _ (congrArg (State.advance · 2) (State.countDraw_withIo { s with regs := { s.regs with a := s.portIn p } } y p))

/-- OUT to a port other than 4 does not touch the shift register. -/
theorem exec_outPort_withShift (x : Word) (s : State) {p : Byte} (h : p ≠ 4#8) :
    exec (.outPort p) (withShift x s) = .next (withShift x ((s.portOut p s.regs.a).advance 2)) := by
  have hp : (withShift x s).portOut p s.regs.a = withShift x (s.portOut p s.regs.a) := by
    unfold State.portOut
    split
    case h_2 h4 => exact absurd (BitVec.eq_of_toNat_eq h4) h
    all_goals rfl
  exact congrArg (fun t : State => Host.Outcome.next (t.advance 2)) hp

/-- OUT touches no input latch. -/
theorem exec_outPort_withInputs (x y z : Byte) (s : State) (p : Byte) :
    exec (.outPort p) (withInputs x y z s) = .next (withInputs x y z ((s.portOut p s.regs.a).advance 2)) := by
  have hp : (withInputs x y z s).portOut p s.regs.a = withInputs x y z (s.portOut p s.regs.a) := by
    unfold State.portOut
    split <;> rfl
  exact congrArg (fun t : State => Host.Outcome.next (t.advance 2)) hp

end Sys2Proof.Machine
end

section
/-! SUPPORT. Frames over every instruction: pc, the flags, the general registers, SP (10_state.md R31-R43). -/

namespace Sys2Proof.Proofs

open Sys2Proof.Machine Sys2Proof.Claims

/-- Settles O23, family by family: an instruction that is no transfer ends in `advance` by its own length. -/
theorem pcAdvancesByLengthUnlessTransfer : Obligations.PcAdvancesByLengthUnlessTransfer := by
  intro i s t h
  apply exec_next (Q := fun i s t => i.implemented = true → ¬ Transfers i → t.pc = s.pc + BitVec.ofNat 16 i.length) h
  case unimplemented => intro j op hj _ hi; rw [hj] at hi; cases hi
  -- the control transfers
  case jmp => exact fun w _ hn => (hn (.inl ⟨w, .inl rfl⟩)).elim
  case call => exact fun w _ hn => (hn (.inl ⟨w, .inr rfl⟩)).elim
  case jcond => exact fun k w _ hn => (hn (.inr (.inl ⟨k, w, .inl rfl⟩))).elim
  case ccond => exact fun k w _ hn => (hn (.inr (.inl ⟨k, w, .inr rfl⟩))).elim
  case ret => exact fun _ hn => (hn (.inr (.inr (.inl rfl)))).elim
  case rcond => exact fun k _ hn => (hn (.inr (.inr (.inr (.inl ⟨k, rfl⟩))))).elim
  case rst => exact fun x y z _ hn => (hn (.inr (.inr (.inr (.inr (.inl ⟨x, y, z, rfl⟩)))))).elim
  case pchl => exact fun _ hn => (hn (.inr (.inr (.inr (.inr (.inr rfl)))))).elim
  -- the meanings that `exec_next` gives by their equation, or by the parameter
  case xchg | daa | rlc | rrc | ral | rar => intro t ht _ _; cases ht; rfl
  case ei => intro _ _; split <;> rfl
  -- the families with an operand code, and the ports
  case mov | mvi | inr | dcr | lxi | inx | dcx | dad | alu | aluImm | push | pop | inPort | outPort => intros; simp
  -- one instruction each
  all_goals intros; rfl

/-- Both halves of O25 hold where no flag is written. -/
theorem flagFrame_of_flags_eq {i : Instr} {s t : State} (h : t.flags = s.flags) :
    (¬ WritesZSPAC i → t.flags = { s.flags with carry := t.flags.carry }) ∧
    (¬ WritesCY i → t.flags.carry = s.flags.carry) := by
  simp [h]

/-- Both halves of O25 hold where a writer of CY writes CY alone. -/
theorem flagFrame_of_carry_only {i : Instr} {s t : State} {b : Bool} (h : t.flags = { s.flags with carry := b })
    (hi : WritesCY i) :
    (¬ WritesZSPAC i → t.flags = { s.flags with carry := t.flags.carry }) ∧
    (¬ WritesCY i → t.flags.carry = s.flags.carry) :=
  ⟨fun _ => by simp [h], fun hn => absurd hi hn⟩

/-- Settles O25, family by family: a family writes all the flags, or all but CY, or CY alone, or none. -/
theorem onlyListedInstructionsWriteFlags : Obligations.OnlyListedInstructionsWriteFlags := by
  intro i s t h
  apply exec_next (Q := fun i s t => (¬ WritesZSPAC i → t.flags = { s.flags with carry := t.flags.carry }) ∧
    (¬ WritesCY i → t.flags.carry = s.flags.carry)) h
  -- all the flags
  case alu => exact fun k r => ⟨fun hn => (hn (.inl ⟨k, r, rfl⟩)).elim, fun hn => (hn (.inl ⟨k, r, rfl⟩)).elim⟩
  case aluImm =>
    exact fun k v => ⟨fun hn => (hn (.inr (.inl ⟨k, v, rfl⟩))).elim, fun hn => (hn (.inr (.inl ⟨k, v, rfl⟩))).elim⟩
  case daa => exact fun t _ => ⟨fun hn => (hn (by simp [WritesZSPAC])).elim, fun hn => (hn (by simp [WritesCY])).elim⟩
  case pop =>
    intro p
    by_cases hp : p = .psw
    · subst hp
      exact ⟨fun hn => (hn (by simp [WritesZSPAC, Instr.popOf])).elim, fun hn => (hn (by simp [WritesCY, Instr.popOf])).elim⟩
    · exact flagFrame_of_flags_eq (by simp [State.writeStackPair_flags_ne _ _ hp])
  -- all but CY
  case inr => exact fun r => ⟨fun hn => (hn (.inr (.inr (.inl ⟨r, .inl rfl⟩)))).elim, fun _ => by simp⟩
  case dcr => exact fun r => ⟨fun hn => (hn (.inr (.inr (.inl ⟨r, .inr rfl⟩)))).elim, fun _ => by simp⟩
  -- CY alone
  case dad => exact fun p => flagFrame_of_carry_only rfl (.inr (.inr (.inl ⟨p, rfl⟩)))
  case rlc | rrc | ral | rar =>
    intro t ht; cases ht
    exact flagFrame_of_carry_only rfl (by simp [WritesCY])
  case cmc | stc => exact flagFrame_of_carry_only rfl (by simp [WritesCY])
  -- no flag
  case xchg => intro t ht; cases ht; exact flagFrame_of_flags_eq rfl
  case jcond | ccond | rcond | ei => intros; exact flagFrame_of_flags_eq (by simp [apply_ite State.flags])
  all_goals intros; exact flagFrame_of_flags_eq (by simp)

/-- The accumulator instructions have A as a destination, and `x` is no destination. -/
theorem ne_a_of_not_mayWriteReg {i : Instr} {x : Reg8} (hn : ¬ MayWriteReg i x) (hi : MayWriteReg i .a) : x ≠ .a := by
  rintro rfl; exact hn hi

theorem mayWriteReg_of_bc {i : Instr} {x : Reg8} (h : RegPair.bc.hasHalf x)
    (hi : (∃ w, i = .lxiBC w) ∨ i = .inxBC ∨ i = .dcxBC ∨ i = .popBC) : MayWriteReg i x :=
  .inr (.inr (.inr (.inr (.inr (.inl ⟨h, hi⟩)))))

theorem mayWriteReg_of_de {i : Instr} {x : Reg8} (h : RegPair.de.hasHalf x)
    (hi : (∃ w, i = .lxiDE w) ∨ i = .inxDE ∨ i = .dcxDE ∨ i = .popDE ∨ i = .xchg) : MayWriteReg i x :=
  .inr (.inr (.inr (.inr (.inr (.inr (.inl ⟨h, hi⟩))))))

theorem mayWriteReg_of_hl {i : Instr} {x : Reg8} (h : RegPair.hl.hasHalf x)
    (hi : (∃ w, i = .lxiHL w ∨ i = .lhld w) ∨ i = .inxHL ∨ i = .dcxHL ∨ i = .popHL ∨ i = .xchg ∨ i = .xthl ∨
      ∃ p, i = .dadOf p) : MayWriteReg i x :=
  .inr (.inr (.inr (.inr (.inr (.inr (.inr ⟨h, hi⟩))))))

theorem mayWriteReg_lxiOf {p : RegPair} {x : Reg8} (w : Word) (h : p.hasHalf x) : MayWriteReg (.lxiOf p w) x := by
  cases p with
  | bc => exact mayWriteReg_of_bc h (.inl ⟨w, rfl⟩)
  | de => exact mayWriteReg_of_de h (.inl ⟨w, rfl⟩)
  | hl => exact mayWriteReg_of_hl h (.inl ⟨w, .inl rfl⟩)
  | sp => exact h.elim

theorem mayWriteReg_inxOf {p : RegPair} {x : Reg8} (h : p.hasHalf x) : MayWriteReg (.inxOf p) x := by
  cases p with
  | bc => exact mayWriteReg_of_bc h (by simp [Instr.inxOf])
  | de => exact mayWriteReg_of_de h (by simp [Instr.inxOf])
  | hl => exact mayWriteReg_of_hl h (by simp [Instr.inxOf])
  | sp => exact h.elim

theorem mayWriteReg_dcxOf {p : RegPair} {x : Reg8} (h : p.hasHalf x) : MayWriteReg (.dcxOf p) x := by
  cases p with
  | bc => exact mayWriteReg_of_bc h (by simp [Instr.dcxOf])
  | de => exact mayWriteReg_of_de h (by simp [Instr.dcxOf])
  | hl => exact mayWriteReg_of_hl h (by simp [Instr.dcxOf])
  | sp => exact h.elim

theorem mayWriteReg_aluOf {k : AluOp} (r : Reg8) (hk : k ≠ .cmp) : MayWriteReg (.aluOf k r) .a :=
  .inr (.inr (.inr (.inr (.inl ⟨rfl, .inl ⟨k, r, hk, rfl⟩⟩))))

theorem mayWriteReg_aluImmOf {k : AluOp} (v : Byte) (hk : k ≠ .cmp) : MayWriteReg (.aluImmOf k v) .a :=
  .inr (.inr (.inr (.inr (.inl ⟨rfl, .inr (.inl ⟨k, v, hk, rfl⟩)⟩))))

/-- An ALU operation leaves the register: it is CMP, which writes none, or it writes A alone. -/
theorem readReg_aluApply {k : AluOp} {x : Reg8} (v : Byte) (s : State) (ha : k ≠ .cmp → x ≠ .a) (hm : x ≠ .m) :
    (aluApply k v s).readReg x = s.readReg x := by
  by_cases hk : k = .cmp
  · subst hk; exact readReg_eq_of_regs_eq rfl hm
  · obtain ⟨r, hr⟩ := State.aluApply_regs s k v
    exact readReg_eq_of_regs_eq_set_a hr (ha hk) hm

/-- Settles O27, family by family: the destination operand, A, or the halves of a pair, or no register. -/
theorem onlyDestinationRegistersChange : Obligations.OnlyDestinationRegistersChange := by
  intro i s t x h hm
  apply exec_next (Q := fun i s t => ¬ MayWriteReg i x → t.readReg x = s.readReg x) h
  -- the destination operand
  case mov =>
    intro dst src _ hn
    have hx : x ≠ dst := by rintro rfl; exact hn (.inl ⟨src, rfl⟩)
    simpa using s.readReg_writeReg_ne dst x _ hx hm
  case mvi =>
    intro dst v hn
    have hx : x ≠ dst := by rintro rfl; exact hn (.inr (.inl ⟨v, rfl⟩))
    simpa using s.readReg_writeReg_ne dst x v hx hm
  case inr =>
    intro r hn
    have hx : x ≠ r := by rintro rfl; exact hn (.inr (.inr (.inl rfl)))
    exact (readReg_eq_of_regs_eq rfl hm).trans (s.readReg_writeReg_ne r x _ hx hm)
  case dcr =>
    intro r hn
    have hx : x ≠ r := by rintro rfl; exact hn (.inr (.inr (.inr (.inl rfl))))
    exact (readReg_eq_of_regs_eq rfl hm).trans (s.readReg_writeReg_ne r x _ hx hm)
  -- the halves of a pair
  case lxi => exact fun p w hn => s.readReg_writePair_ne p w (hn ∘ mayWriteReg_lxiOf w) hm
  case inx => exact fun p hn => s.readReg_writePair_ne p _ (hn ∘ mayWriteReg_inxOf) hm
  case dcx => exact fun p hn => s.readReg_writePair_ne p _ (hn ∘ mayWriteReg_dcxOf) hm
  case pop =>
    intro p hn
    cases p with
    | bc => exact s.drop16.readReg_writePair_ne .bc _ (fun h => hn (mayWriteReg_of_bc h (by simp [Instr.popOf]))) hm
    | de => exact s.drop16.readReg_writePair_ne .de _ (fun h => hn (mayWriteReg_of_de h (by simp [Instr.popOf]))) hm
    | hl => exact s.drop16.readReg_writePair_ne .hl _ (fun h => hn (mayWriteReg_of_hl h (by simp [Instr.popOf]))) hm
    | psw => exact readReg_eq_of_regs_eq_set_a (by rfl) (ne_a_of_not_mayWriteReg hn (by simp [MayWriteReg, Instr.popOf])) hm
  case dad =>
    intro p hn
    exact (readReg_eq_of_regs_eq rfl hm).trans (s.readReg_writePair_ne .hl _ (fun h => hn (mayWriteReg_of_hl h (by simp))) hm)
  case lhld =>
    intro w hn
    exact s.readReg_writePair_ne .hl _ (fun h => hn (mayWriteReg_of_hl h (by simp))) hm
  case xthl =>
    intro hn
    exact (State.readReg_writePair_ne (s.writeWord s.sp s.hl) .hl _ (fun h => hn (mayWriteReg_of_hl h (by simp))) hm).trans
      (readReg_eq_of_regs_eq (by simp) hm)
  case xchg =>
    intro t ht hn
    cases ht
    exact (State.readReg_writePair_ne _ .de _ (fun h => hn (mayWriteReg_of_de h (by simp))) hm).trans
      (s.readReg_writePair_ne .hl _ (fun h => hn (mayWriteReg_of_hl h (by simp))) hm)
  -- A
  case alu =>
    intro k r hn
    simpa using readReg_aluApply _ s (fun hk => ne_a_of_not_mayWriteReg hn (mayWriteReg_aluOf r hk)) hm
  case aluImm =>
    intro k v hn
    simpa using readReg_aluApply v s (fun hk => ne_a_of_not_mayWriteReg hn (mayWriteReg_aluImmOf v hk)) hm
  case daa | rlc | rrc | ral | rar =>
    intro t ht hn
    cases ht
    exact readReg_eq_of_regs_eq_set_a (by rfl) (ne_a_of_not_mayWriteReg hn (by simp [MayWriteReg])) hm
  case ldaxBC | ldaxDE | cma =>
    intro hn
    exact readReg_eq_of_regs_eq_set_a (by rfl) (ne_a_of_not_mayWriteReg hn (by simp [MayWriteReg])) hm
  case lda =>
    intro _ hn
    exact readReg_eq_of_regs_eq_set_a (by rfl) (ne_a_of_not_mayWriteReg hn (by simp [MayWriteReg])) hm
  case inPort =>
    intro p hn
    exact readReg_eq_of_regs_eq_set_a (v := s.portIn p) (by simp) (ne_a_of_not_mayWriteReg hn (by simp [MayWriteReg])) hm
  -- no register
  case jcond | ccond | rcond | ei => intros; exact readReg_eq_of_regs_eq (by simp [apply_ite State.regs]) hm
  all_goals intros; exact readReg_eq_of_regs_eq (by simp) hm

/-- Settles O28, family by family: the stack instructions and the writers of the pair SP write it, by their condition where they
have one, and no other. -/
theorem onlyListedInstructionsWriteSp : Obligations.OnlyListedInstructionsWriteSp := by
  intro i s t h
  apply exec_next (Q := fun i s t => ¬ WritesSP i s → t.sp = s.sp) h
  -- the pair SP or another pair
  case lxi =>
    intro p w hn
    have hp : p ≠ .sp := by rintro rfl; exact hn (.inl ⟨w, .inl rfl⟩)
    exact s.writePair_sp_ne _ hp
  case inx =>
    intro p hn
    have hp : p ≠ .sp := by rintro rfl; exact hn (.inr (.inl rfl))
    exact s.writePair_sp_ne _ hp
  case dcx =>
    intro p hn
    have hp : p ≠ .sp := by rintro rfl; exact hn (.inr (.inr (.inl rfl)))
    exact s.writePair_sp_ne _ hp
  -- the stack
  case sphl => exact fun hn => (hn (.inr (.inr (.inr (.inl rfl))))).elim
  case push => exact fun p hn => (hn (.inr (.inr (.inr (.inr (.inl ⟨p, .inl rfl⟩)))))).elim
  case pop => exact fun p hn => (hn (.inr (.inr (.inr (.inr (.inl ⟨p, .inr rfl⟩)))))).elim
  case call => exact fun w hn => (hn (.inl ⟨w, .inr rfl⟩)).elim
  case ret => exact fun hn => (hn (.inr (.inr (.inr (.inr (.inr (.inl rfl))))))).elim
  case rst => exact fun x y z hn => (hn (.inr (.inr (.inr (.inr (.inr (.inr (.inr (.inr ⟨x, y, z, rfl⟩))))))))).elim
  -- the stack, where the condition holds
  case ccond =>
    intro k w hn
    have hk : ¬ k.holds s.flags = true := fun hk =>
      hn (.inr (.inr (.inr (.inr (.inr (.inr (.inl ⟨k, w, rfl, (taken_eq_holds k s).trans hk⟩)))))))
    simp [hk]
  case rcond =>
    intro k hn
    have hk : ¬ k.holds s.flags = true := fun hk =>
      hn (.inr (.inr (.inr (.inr (.inr (.inr (.inr (.inl ⟨k, rfl, (taken_eq_holds k s).trans hk⟩))))))))
    simp [hk]
  -- no write of SP
  case jcond | ei => intros; simp [apply_ite State.sp]
  case xchg | daa | rlc | rrc | ral | rar => intro t ht _; cases ht; rfl
  all_goals intros; simp [State.writePair_sp_ne]

end Sys2Proof.Proofs
end

section
/-! SUPPORT. Control and device state, the recorded fault, and the devices (10_state.md R46-R54). -/

namespace Sys2Proof.Proofs

open Sys2Proof.Machine Sys2Proof.Claims

/-- Settles O10: no move changes a faulted state, hence no schedule does. -/
theorem faultedStateNeverChanges : Obligations.FaultedStateNeverChanges := by
  intro s t es hs
  refine ⟨fun n hn => ?_, fun hr => ?_⟩
  · have hok : interruptNumberOk n = true := decide_eq_true hn
    rcases s.requestInterrupt_cases n with ⟨hf, -, -⟩ | ⟨-, ht⟩
    · exact absurd hf hs
    · rw [hostStep, raiseInterrupt, if_pos hok, ht]
  · refine runEvents_keeps (P := fun u => u = s) (fun e u v hu hv => ?_) es rfl hr
    subst hu
    exact systemStep_faulted hs hv

/-- Settles O29, by the instructions that write control or device state. -/
theorem controlAndDeviceStateHasNoOtherInstructionWriter :
    Obligations.ControlAndDeviceStateHasNoOtherInstructionWriter := by
  intro i s t h
  cases exec_controlEffect h with
  | none same =>
    obtain ⟨hie, hei, hh, hf, hio, hp, hd⟩ := same
    simp [hie, hei, hh, hf, hio, hp, hd]
  | ei | eiLater | di | hlt => simp
  | inPort p =>
    have hdraws (hn : ∀ q : Byte, 4 ≤ q.toNat → Instr.inPort p ≠ .inPort q) :
        ((({ s with regs := { s.regs with a := s.portIn p } } : State).countDraw p).advance 2).draws = s.draws := by
      have hp : p.toNat < 4 := by
        by_contra hp
        exact hn p (by omega) rfl
      rw [State.countDraw_mapped _ hp]; rfl
    simpa using hdraws
  | outPort p =>
    rcases s.portOut_cases p s.regs.a with ⟨rfl, hs⟩ | ⟨rfl, hs⟩ | ⟨-, -, hs⟩
    · simp [hs, Shim.setOffset]
    · simp [hs, Shim.shiftIn]
    · simp [hs]
  | unimplemented op hi => simp [hi]

/-- Settles O60, by the moves that change control or device state: an instruction with the settling of a pending EI, a latch write,
an accepted interrupt. -/
theorem controlAndDeviceStateChangesOnlyByItsMoves : Obligations.ControlAndDeviceStateChangesOnlyByItsMoves := by
  intro e s t h
  rcases systemStep_cases h with rfl | ⟨rfl, hf, hh, u, hu, rfl⟩ | ⟨k, v, rfl, -, rfl⟩ | ⟨ha, n, rfl⟩
  · simp
  · obtain ⟨-, -, -, h0, h1, h2, -⟩ := controlAndDeviceStateHasNoOtherInstructionWriter _ s u hu
    simp only [State.settleEi_halted, State.settleEi_io, State.settleEi_params]
    exact ⟨fun hne => .inl ⟨rfl, hf, hh, settled_interruptsEnabled hu hne⟩,
      fun hne => .inl ⟨rfl, hf, hh, settled_eiPending hu hne⟩,
      fun hne => .inl ⟨rfl, hf, hh, exec_fetch_halted hu hne⟩,
      fun hne => ⟨rfl, hf, hh, exec_fetch_shiftRegister hu hne⟩,
      fun hne => ⟨rfl, hf, hh, exec_fetch_shiftOffset hu hne⟩,
      fun hne => absurd h0 hne, fun hne => absurd h1 hne, fun hne => absurd h2 hne, exec_params hu⟩
  · obtain ⟨h0, h1, h2⟩ := s.setInput_changes k v
    obtain ⟨hr, ho⟩ := s.setInput_shiftHardware k v
    refine ⟨fun hne => absurd (by simp) hne, fun hne => absurd (by simp) hne, fun hne => absurd (by simp) hne,
      fun hne => absurd hr hne, fun hne => absurd ho hne, fun hne => ?_, fun hne => ?_, fun hne => ?_, by simp⟩
    · obtain ⟨rfl, hv⟩ := h0 hne; rw [hv]
    · obtain ⟨rfl, hv⟩ := h1 hne; rw [hv]
    · obtain ⟨rfl, hv⟩ := h2 hne; rw [hv]
  · exact ⟨fun _ => .inr ⟨ha, rfl⟩, fun _ => .inr ⟨ha, rfl⟩, fun _ => .inr ⟨ha, rfl⟩, fun hne => absurd rfl hne,
      fun hne => absurd rfl hne, fun hne => absurd rfl hne, fun hne => absurd rfl hne, fun hne => absurd rfl hne, rfl⟩

/-- Settles O30: IN and OUT by port, every other instruction whatever the whole shim holds. -/
theorem devicesAreSeenOnlyThroughTheirPorts : Obligations.DevicesAreSeenOnlyThroughTheirPorts := by
  intro i s
  by_cases hin : ∃ p, i = .inPort p
  · obtain ⟨p, rfl⟩ := hin
    refine ⟨_, rfl, fun x h3 _ => ?_, fun x y z h0 h1 h2 => ?_⟩
    · have hp := State.portIn_withShift x s (p := p) (by simpa using h3)
      rw [withShift_eq_withIo] at hp ⊢
      rw [exec_inPort_withIo hp, withShift_eq_withIo]
      simp
    · have hp := State.portIn_withInputs x y z s (p := p) (by simpa using h0) (by simpa using h1) (by simpa using h2)
      rw [withInputs_eq_withIo] at hp ⊢
      rw [exec_inPort_withIo hp, withInputs_eq_withIo]
      simp
  by_cases hout : ∃ p, i = .outPort p
  · obtain ⟨p, rfl⟩ := hout
    exact ⟨_, rfl, fun x _ h4 => exec_outPort_withShift x s (by simpa using h4),
      fun x y z _ _ _ => exec_outPort_withInputs x y z s p⟩
  · replace hin := not_exists.mp hin
    replace hout := not_exists.mp hout
    obtain ⟨t, h⟩ := exec_total i s
    have hio := exec_io h hout
    refine ⟨t, h, fun x _ _ => ?_, fun x y z _ _ _ => ?_⟩
    · rw [withShift_eq_withIo, withShift_eq_withIo, hio]; exact exec_withIo _ h hin hout
    · rw [withInputs_eq_withIo, withInputs_eq_withIo, hio]; exact exec_withIo _ h hin hout

end Sys2Proof.Proofs
end

section
/-! SUPPORT. The flag byte on the stack, and the state at reset (10_state.md R44, R45, R56). -/

namespace Sys2Proof.Proofs

open Sys2Proof.Machine Sys2Proof.Claims

/-- Settles O50, by what each byte reads as after a push. -/
theorem pushPswPacksTheFlagByte : Obligations.PushPswPacksTheFlagByte := by
  intro s
  have hnext : s.sp - 1#16 = s.sp - 2#16 + 1#16 := by bv_omega
  have hread (a : Word) : ((s.push16 (s.readStackPair .psw)).advance 1).readByte a
      = if a = s.sp - 2#16 + 1#16 then s.flags.toByte else if a = s.sp - 2#16 then s.regs.a else s.readByte a := by
    simp [State.readByte_push16, State.readStackPair]
  refine ⟨rfl, (s.push16 (s.readStackPair .psw)).advance 1, rfl, ?_, ?_, fun a h2 h1 => ?_, rfl⟩
  · rw [hread, if_neg (next_address_ne _).symm, if_pos rfl]
  · rw [hread, hnext, if_pos rfl]
    exact s.flags.toByte_bits
  · rw [hread, if_neg (hnext ▸ h1), if_neg h2]

/-- Settles O19, by evaluation of the reset state. -/
theorem resetGivesTheListedValues : Obligations.ResetGivesTheListedValues := by
  refine ⟨fun r => ?_, rfl, rfl, rfl, rfl, rfl, rfl, rfl, fun a => rfl, rfl⟩
  cases r <;> rfl

/-- Settles O20: the empty memory is in canonical form, nothing is pending, no fault is recorded. -/
theorem resetMeetsTheInvariant : Obligations.ResetMeetsTheInvariant := fun _ =>
  { memory := Memory.wf_nil
    eiPending := fun _ => rfl
    report := fun r hr => by cases hr }

/-- Settles O51, pair by pair. -/
theorem popLoadsItsPairFromSp : Obligations.PopLoadsItsPairFromSp := by
  intro s
  obtain ⟨hbc, hde, hhl, hpsw⟩ := State.writeStackPair_concat16 s.drop16 (s.readByte (s.sp + 1#16)) (s.readByte s.sp)
  have advanced {t u : State} (h : t = u) : (Host.Outcome.next (t.advance 1) : Result) = .next (u.advance 1) := by rw [h]
  exact ⟨advanced hbc, advanced hde, advanced hhl, advanced hpsw, rfl, rfl, rfl, rfl⟩

end Sys2Proof.Proofs
end

section
/-! SUPPORT. Memory: what a canonical memory holds is what it reads as; each family's stored addresses (20_memory.md R60, R67). -/

namespace Sys2Proof.Machine

open Sys2Proof.Claims

/-! ## Canonical memories -/

/-- In canonical form every listed cell is the one that a read of its address finds. -/
theorem Memory.read_of_mem {m : Memory} (h : Memory.wf m) {c : Host.Cell} (hc : c ∈ m) : Memory.read m c.1 = c.2 := by
  obtain ⟨rising, -⟩ := h
  induction m with
  | nil => cases hc
  | cons d m ih =>
    obtain ⟨below, rising⟩ := List.pairwise_cons.mp rising
    rcases List.mem_cons.mp hc with rfl | hc
    · simp [Memory.read]
    · simpa [Memory.read, (below c hc).ne] using ih hc rising

/-- What an address reads as, if not 0x00, is listed there, whatever the memory. -/
theorem Memory.mem_of_read_ne {m : Memory} {a : Nat} (h : Memory.read m a ≠ 0x00#8) : (a, Memory.read m a) ∈ m := by
  induction m with
  | nil => exact absurd rfl h
  | cons d m ih =>
    by_cases hd : d.1 = a
    · subst hd; simp [Memory.read]
    · simp only [Memory.read, hd, if_false] at h ⊢
      exact List.mem_cons_of_mem d (ih h)

/-- The cells of a canonical memory, by reads alone: the addresses below 65536 that read as something else than 0x00, each with what
it reads as. -/
theorem Memory.mem_iff_read {m : Memory} (h : Memory.wf m) (c : Host.Cell) :
    c ∈ m ↔ c.1 < 65536 ∧ c.2 ≠ 0x00#8 ∧ Memory.read m c.1 = c.2 := by
  constructor
  · intro hc
    obtain ⟨hlt, hne⟩ := h.2 c hc
    exact ⟨hlt, hne, Memory.read_of_mem h hc⟩
  · rintro ⟨-, hne, hr⟩
    have hmem := Memory.mem_of_read_ne (m := m) (a := c.1) (by rwa [hr])
    rwa [hr] at hmem

/-! ## A word by its two bytes -/

/-- `h * 256 + l` as the claims state it is the model's own `concat16` (00_scope.md R10). -/
theorem pairOf_eq_concat16 (h l : Byte) : pairOf h l = concat16 h l := by
  rw [pairOf, ← concat16_toNat, BitVec.ofNat_toNat, BitVec.setWidth_eq]

/-! ## Where an instruction stores -/

/-- Whatever leaves the memory alone leaves every byte of it alone. -/
theorem State.readByte_eq_of_mem_eq {s t : State} (h : t.mem = s.mem) (a : Word) : t.readByte a = s.readByte a := by
  rw [State.readByte, h, State.readByte]

/-- Writing an operand leaves every byte alone but those of a list that holds HL, if the operand is M. -/
theorem State.readByte_writeReg_of_notMem (s : State) {r : Reg8} {a : Word} {l : List Word} (v : Byte)
    (hl : r = .m → s.hl ∈ l) (ha : a ∉ l) : (s.writeReg r v).readByte a = s.readByte a :=
  s.readByte_writeReg r v a (fun ⟨hr, h⟩ => ha (h ▸ hl hr))

/-- A 16-bit write leaves every byte but its two alone. -/
theorem State.readByte_writeWord_ne (s : State) {w a : Word} (v : Word) (h : a ∉ [w, w + 1#16]) :
    (s.writeWord w v).readByte a = s.readByte a := by
  simp only [List.mem_cons, List.not_mem_nil, or_false, not_or] at h
  rw [State.readByte_writeWord, if_neg h.2, if_neg h.1]

/-- The two bytes a push stores to. -/
def State.pushAddresses (s : State) : List Word := [s.sp - 2#16, s.sp - 2#16 + 1#16]

/-- A push leaves every other byte alone. -/
theorem State.readByte_push16_ne (s : State) {a : Word} (v : Word) (h : a ∉ s.pushAddresses) :
    (s.push16 v).readByte a = s.readByte a := State.readByte_writeWord_ne s v h

theorem storedAddresses_movOf_m {src : Reg8} (h : src ≠ .m) (s : State) : storedAddresses (.movOf .m src) s = [s.hl] := by
  cases src with
  | m => exact absurd rfl h
  | _ => rfl
theorem storedAddresses_pushOf (p : StackPair) (s : State) : storedAddresses (.pushOf p) s = s.pushAddresses := by
  cases p <;> rfl
theorem storedAddresses_ccondOf (k : Cond) (w : Word) (s : State) :
    storedAddresses (.ccondOf k w) s = if taken k s then s.pushAddresses else [] := by cases k <;> rfl
theorem storedAddresses_rstOfBits (x y z : Bool) (s : State) :
    storedAddresses (.rstOfBits x y z) s = s.pushAddresses := by cases x <;> cases y <;> cases z <;> rfl

/-! ## The invariant over one instruction -/

/-- Every instruction keeps memory in canonical form. -/
theorem exec_wf {i : Instr} {s t : State} (hs : Memory.wf s.mem) (h : exec i s = .next t) : Memory.wf t.mem := by
  apply exec_next (Q := fun _ _ t => Memory.wf t.mem) h
  -- the families that write an operand
  case mov => exact fun dst src _ => State.writeReg_wf hs dst (s.readReg src)
  case mvi => exact fun dst v => State.writeReg_wf hs dst v
  case inr => exact fun r => State.writeReg_wf hs r _
  case dcr => exact fun r => State.writeReg_wf hs r _
  -- the stores of a byte or a word
  case staxBC | staxDE => exact State.writeByte_wf hs _ _
  case sta => exact fun w => State.writeByte_wf hs w _
  case shld => exact fun w => State.writeWord_wf hs w _
  case xthl => exact State.writeWord_wf hs _ _
  -- the pushes
  case push => exact fun p => State.push16_wf hs _
  case call => exact fun w => State.push16_wf hs _
  case rst => exact fun x y z => State.push16_wf hs _
  case ccond =>
    intro k w
    split
    · exact State.push16_wf hs _
    · exact hs
  -- no store
  case lda | ldaxBC | ldaxDE => intros; exact hs
  case jcond | rcond | ei => intros; split <;> exact hs
  case xchg | daa | rlc | rrc | ral | rar => intro t ht; cases ht; exact hs
  all_goals intros; simpa using hs

/-- The one byte of an instruction without a handler is one of the 12 (30_encoding.md R97). -/
theorem unimplementedOpcodes_contains {i : Instr} (hi : i.implemented = false) {op : Byte} (he : encode i = [op]) :
    unimplementedOpcodes.contains op = true := by
  cases i with
  | unimplemented08 | unimplemented10 | unimplemented18 | unimplemented20 | unimplemented28 | unimplemented30
  | unimplemented38 | unimplementedCB | unimplementedD9 | unimplementedDD | unimplementedED | unimplementedFD =>
    cases he; rfl
  | _ => cases hi

end Sys2Proof.Machine
end

section
/-! SUPPORT. The invariant over a step, and the rules of memory (20_memory.md R60, R67, R78). -/

namespace Sys2Proof.Proofs

open Sys2Proof.Machine Sys2Proof.Claims

/-- Where no fault is recorded, executing the instruction at pc records none or makes a true report of the byte at pc. -/
theorem exec_fetch_faultReportTrue {s u : State} (hf : s.fault = none) (h : exec s.fetch s = .next u) :
    u.FaultReportTrue := by
  intro r hr
  cases hi : s.fetch.implemented with
  | true =>
    obtain ⟨-, -, fault, -⟩ := controlAndDeviceStateHasNoOtherInstructionWriter _ s u h
    rw [fault hi, hf] at hr
    cases hr
  | false =>
    obtain ⟨op, he, hx⟩ := exec_unimplemented s.fetch hi s
    have hop : s.opcode = op := opcode_of_fetch rfl (by rw [he]; rfl)
    rw [hx] at h
    cases h
    cases hr
    exact ⟨unimplementedOpcodes_contains hi he, rfl, hop⟩

/-- Settles O17: a halted step changes nothing; otherwise each part of the invariant holds after `exec` and is left alone by the
settling of a pending EI, which can only clear ei_pending. -/
theorem stepKeepsTheInvariant : Obligations.StepKeepsTheInvariant := by
  intro s t hs h
  obtain ⟨hf, ⟨-, rfl⟩ | ⟨-, u, hu, rfl⟩⟩ := step_cases h
  · exact hs
  refine { memory := ?_, eiPending := fun hd => ?_, report := ?_ }
  · simpa using exec_wf hs.memory hu
  · rw [State.settleEi_params, exec_params hu] at hd
    by_contra hp
    have hne : (u.settleEi s.opcode).eiPending ≠ s.eiPending := by simpa [hs.eiPending hd] using hp
    rcases settled_eiPending hu hne with ⟨-, hd', -⟩ | ⟨-, hp'⟩ | ⟨-, -, hd', -⟩
    · simp [hd] at hd'
    · exact hp hp'
    · simp [hd] at hd'
  · simpa [State.FaultReportTrue, State.readByte] using exec_fetch_faultReportTrue hf hu

/-- Settles O22: strictly rising lists with the same cells are equal, and the cells are known by reads. -/
theorem canonicalMemoriesThatReadAlikeAreEqual : Obligations.CanonicalMemoriesThatReadAlikeAreEqual := by
  intro m k hm hk alike
  refine hm.1.eq_of_mem_iff hk.1 fun c => ?_
  rw [Memory.mem_iff_read hm, Memory.mem_iff_read hk]
  exact and_congr_right fun hlt => by rw [alike c.1 hlt]

/-- Settles O26, family by family: an operand, a byte, a word, a push, or no store. -/
theorem everyByteOutsideTheStoredOnesIsUnchanged : Obligations.EveryByteOutsideTheStoredOnesIsUnchanged := by
  intro i s t a h
  apply exec_next (Q := fun i s t => a ∉ storedAddresses i s → t.readByte a = s.readByte a) h
  -- the 8-bit operand, M being at HL
  case mov =>
    intro dst src hd
    refine s.readByte_writeReg_of_notMem _ fun hm => ?_
    subst hm
    simp [storedAddresses_movOf_m (fun hr => hd ⟨rfl, hr⟩)]
  case mvi => exact fun dst v => s.readByte_writeReg_of_notMem v (by rintro rfl; exact List.mem_singleton_self s.hl)
  case inr => exact fun r => s.readByte_writeReg_of_notMem _ (by rintro rfl; exact List.mem_singleton_self s.hl)
  case dcr => exact fun r => s.readByte_writeReg_of_notMem _ (by rintro rfl; exact List.mem_singleton_self s.hl)
  -- a byte or a word
  case staxBC | staxDE => exact fun ha => s.readByte_writeByte_ne _ a _ (List.ne_of_not_mem_cons ha)
  case sta => exact fun w ha => s.readByte_writeByte_ne w a _ (List.ne_of_not_mem_cons ha)
  case shld => exact fun w ha => s.readByte_writeWord_ne _ ha
  case xthl => exact fun ha => s.readByte_writeWord_ne s.hl ha
  -- a push
  case push => exact fun p ha => s.readByte_push16_ne _ (storedAddresses_pushOf p s ▸ ha)
  case call => exact fun w ha => s.readByte_push16_ne _ ha
  case rst => exact fun x y z ha => s.readByte_push16_ne _ (storedAddresses_rstOfBits x y z s ▸ ha)
  case ccond =>
    intro k w ha
    rw [storedAddresses_ccondOf, taken_eq_holds] at ha
    split
    · next hk => exact s.readByte_push16_ne _ (by simpa [hk] using ha)
    · rfl
  -- no store
  case lda | ldaxBC | ldaxDE => intros; rfl
  case jcond | rcond | ei => intros; split <;> rfl
  case xchg | daa | rlc | rrc | ral | rar => intro t ht _; cases ht; rfl
  all_goals intros; exact State.readByte_eq_of_mem_eq (by simp) a

/-- Settles O58: after the store the byte at `w` is A, and the fetch at `w` reads it as its opcode. -/
theorem storedByteIsExecutedNext : Obligations.StoredByteIsExecutedNext := by
  intro w s t hf hh h
  cases h
  have opcode : (((s.writeByte w s.regs.a).advance 3).jump w).opcode = s.regs.a := s.readByte_writeByte_same w s.regs.a
  rw [step_running (s := ((s.writeByte w s.regs.a).advance 3).jump w) hf hh, State.fetch, opcode, pairOf_eq_concat16]
  rfl

end Sys2Proof.Proofs
end

section
/-! SUPPORT. The decoder and the encoder by opcode byte and operand bytes, and the bytes a step decodes (30_encoding.md R90-R93,
R99, R100). -/

namespace Sys2Proof.Machine

open Sys2Proof.Claims

theorem low_eq_lowByte (v : Word) : low v = lowByte v := by
  simp [low, lowByte_eq, ← BitVec.toNat_inj]

theorem high_eq_highByte (v : Word) : high v = highByte v := (highByte_eq v).symm

/-! ## Lengths (30_encoding.md R90) -/

/-- The opcode byte begins the encoding and gives its length. -/
theorem encode_eq_cons (i : Instr) : Laws.EncodeLength.Statement i := by
  cases i <;> exact ⟨_, _, rfl, rfl⟩

theorem length_eq_opLength {i : Instr} {b : Byte} (h : (encode i).head? = some b) : i.length = opLength b := by
  obtain ⟨b', operands, he, hl⟩ := encode_eq_cons i
  rw [he] at h
  cases h
  rw [Instr.length, he, hl, List.length_cons]

theorem opLength_cases (b : Byte) : opLength b = 1 ∨ opLength b = 2 ∨ opLength b = 3 := by
  unfold opLength
  split
  · exact .inr (.inr rfl)
  · split
    · exact .inr (.inl rfl)
    · exact .inl rfl

/-- LXI; SHLD, LHLD, STA, LDA; JMP, Jcond; CALL, Ccond: the families of three bytes. -/
def TakesWord (i : Instr) : Prop :=
  (∃ p w, i = .lxiOf p w) ∨ (∃ w, i = .shld w ∨ i = .lhld w ∨ i = .sta w ∨ i = .lda w ∨ i = .jmp w ∨ i = .call w) ∨
  ∃ k w, i = .jcondOf k w ∨ i = .ccondOf k w

/-- MVI; ADI to CPI; IN, OUT: the families of two bytes. -/
def TakesByte (i : Instr) : Prop :=
  (∃ r v, i = .mviOf r v) ∨ (∃ k v, i = .aluImmOf k v) ∨ ∃ v, i = .inPort v ∨ i = .outPort v

@[simp] theorem length_jcondOf (k : Cond) (w : Word) : (Instr.jcondOf k w).length = 3 := by cases k <;> rfl
@[simp] theorem length_ccondOf (k : Cond) (w : Word) : (Instr.ccondOf k w).length = 3 := by cases k <;> rfl
@[simp] theorem length_rcondOf (k : Cond) : (Instr.rcondOf k).length = 1 := by cases k <;> rfl
@[simp] theorem length_rstOfBits (x y z : Bool) : (Instr.rstOfBits x y z).length = 1 := by
  cases x <;> cases y <;> cases z <;> rfl

theorem TakesWord.length_eq {i : Instr} (h : TakesWord i) : i.length = 3 := by
  rcases h with ⟨p, w, rfl⟩ | ⟨w, rfl | rfl | rfl | rfl | rfl | rfl⟩ | ⟨k, w, rfl | rfl⟩
  case inl => exact length_lxiOf p w
  case inr.inr.inl => exact length_jcondOf k w
  case inr.inr.inr => exact length_ccondOf k w
  all_goals rfl

theorem TakesByte.length_eq {i : Instr} (h : TakesByte i) : i.length = 2 := by
  rcases h with ⟨r, v, rfl⟩ | ⟨k, v, rfl⟩ | ⟨v, rfl | rfl⟩
  · exact length_mviOf r v
  · exact length_aluImmOf k v
  · rfl
  · rfl

/-- Every instruction takes a word, takes a byte, or is its opcode byte alone. -/
theorem takes_cases (i : Instr) : TakesWord i ∨ TakesByte i ∨ i.length = 1 := by
  induction i using Instr.byFamily with
  | lxi p w => exact .inl (.inl ⟨p, w, rfl⟩)
  | shld w | lhld w | sta w | lda w | jmp w | call w => exact .inl (.inr (.inl ⟨w, by simp⟩))
  | jcond k w => exact .inl (.inr (.inr ⟨k, w, .inl rfl⟩))
  | ccond k w => exact .inl (.inr (.inr ⟨k, w, .inr rfl⟩))
  | mvi r v => exact .inr (.inl (.inl ⟨r, v, rfl⟩))
  | aluImm k v => exact .inr (.inl (.inr (.inl ⟨k, v, rfl⟩)))
  | inPort v => exact .inr (.inl (.inr (.inr ⟨v, .inl rfl⟩)))
  | outPort v => exact .inr (.inl (.inr (.inr ⟨v, .inr rfl⟩)))
  | unimplemented i hi =>
    obtain ⟨b, he, -⟩ := exec_unimplemented i hi State.reset
    exact .inr (.inr (by rw [Instr.length, he]; rfl))
  | mov | inr | dcr | inx | dcx | dad | alu | rcond | push | pop | rst => exact .inr (.inr (by simp))
  | _ => exact .inr (.inr rfl)

/-! ## Operand bytes (30_encoding.md R92, R93) -/

/-- The bytes after the opcode byte of an instruction of `n` bytes with the operand byte `x` or the operand word `w`. -/
def operandBytes (n : Nat) (x : Byte) (w : Word) : List Byte :=
  match n with
  | 3 => [lowByte w, highByte w]
  | 2 => [x]
  | _ => []

/-- Operands read from the bytes after an opcode are written as those bytes. -/
theorem operandBytes_eq_take {b : Byte} {tail : List Byte} (h : opLength b ≤ tail.length + 1) :
    operandBytes (opLength b) (tail.getD 0 0#8) (concat16 (tail.getD 1 0#8) (tail.getD 0 0#8))
      = tail.take (opLength b - 1) := by
  rcases opLength_cases b with hb | hb | hb <;> rw [hb] at h ⊢
  · rfl
  · obtain ⟨x, tail, rfl⟩ := List.exists_cons_of_length_pos (by omega : 0 < tail.length)
    rfl
  · match tail, h with
    | x :: y :: tail, _ => simp [operandBytes]

/-- The encoding of what the decoder reads from eight bits and an operand is those bits and the operand of that length. -/
theorem encode_ofOpcodeBits (b7 b6 b5 b4 b3 b2 b1 b0 : Bool) (x : Byte) (w : Word) :
    encode (.ofOpcodeBits b7 b6 b5 b4 b3 b2 b1 b0 x w) = byteOfBits b7 b6 b5 b4 b3 b2 b1 b0 ::
      operandBytes (opLength (byteOfBits b7 b6 b5 b4 b3 b2 b1 b0)) x w := by
  cases b7 <;> cases b6 <;> cases b5 <;> cases b4 <;> cases b3 <;> cases b2 <;> cases b1 <;> cases b0 <;> rfl

theorem encode_decodeOpcode (b x : Byte) (w : Word) :
    encode (decodeOpcode b x w) = b :: operandBytes (opLength b) x w := by
  rw [decodeOpcode, encode_ofOpcodeBits, byteOfBits_getLsbD]

/-- The decoder reads an instruction back from its opcode byte and its operand bytes, whatever follows them. -/
theorem decodeOpcode_encode {i : Instr} {b : Byte} {operands : List Byte} (he : encode i = b :: operands) (rest : List Byte) :
    decodeOpcode b ((operands ++ rest).getD 0 0#8)
      (concat16 ((operands ++ rest).getD 1 0#8) ((operands ++ rest).getD 0 0#8)) = i := by
  cases i with
  | lxiBC w | lxiDE w | lxiHL w | lxiSP w | shld w | lhld w | sta w | lda w | jmp w | call w
  | jnz w | jz w | jnc w | jc w | jpo w | jpe w | jp w | jm w
  | cnz w | cz w | cnc w | cc w | cpo w | cpe w | cp w | cm w =>
    cases he
    exact congrArg _ (concat16_halves w)
  | _ => cases he; rfl

/-! ## Decoding a list of bytes -/

theorem decode_cons {b : Byte} {tail : List Byte} (h : opLength b ≤ tail.length + 1) :
    decode (b :: tail) = .ok (decodeOpcode b (tail.getD 0 0#8) (concat16 (tail.getD 1 0#8) (tail.getD 0 0#8)),
      tail.drop (opLength b - 1)) := if_neg (Nat.not_lt.mpr h)

/-- What is decoded has an opcode byte and all its operand bytes. -/
theorem decode_ok_cases {bytes rest : List Byte} {i : Instr} (h : decode bytes = .ok (i, rest)) :
    ∃ b tail, bytes = b :: tail ∧ opLength b ≤ tail.length + 1 := by
  cases bytes with
  | nil => cases h
  | cons b tail =>
    refine ⟨b, tail, rfl, Nat.not_lt.mp fun hlt => ?_⟩
    rw [decode, if_pos hlt] at h
    cases h

theorem decode_encode_append (i : Instr) (rest : List Byte) : decode (encode i ++ rest) = .ok (i, rest) := by
  obtain ⟨b, operands, he, hl⟩ := encode_eq_cons i
  have enough : opLength b ≤ (operands ++ rest).length + 1 := by rw [hl, List.length_append]; omega
  rw [he, List.cons_append, decode_cons enough, decodeOpcode_encode he rest, hl, Nat.add_sub_cancel, List.drop_left]

theorem eq_encode_append_of_decode {bytes rest : List Byte} {i : Instr} (h : decode bytes = .ok (i, rest)) :
    bytes = encode i ++ rest := by
  obtain ⟨b, tail, rfl, enough⟩ := decode_ok_cases h
  rw [decode_cons enough] at h
  cases h
  rw [encode_decodeOpcode, operandBytes_eq_take enough, List.cons_append, List.take_append_drop]

/-- A list of bytes is decoded to an instruction exactly if it is that instruction's encoding and the bytes left over. -/
theorem decode_eq_ok_iff {bytes rest : List Byte} {i : Instr} :
    decode bytes = .ok (i, rest) ↔ bytes = encode i ++ rest :=
  ⟨eq_encode_append_of_decode, fun h => h ▸ decode_encode_append i rest⟩

/-! ## The bytes at pc (30_encoding.md R99; log 16) -/

/-- What the decoder reads from the three bytes at pc is what the step fetches. -/
theorem fetch_of_decode_codeBytes {s : State} {i : Instr} {rest : List Byte} (h : decode s.codeBytes = .ok (i, rest)) :
    s.fetch = i := by
  have enough : opLength s.opcode ≤ 3 := by rcases opLength_cases s.opcode with hb | hb | hb <;> omega
  rw [State.codeBytes, ← State.opcode, decode_cons enough] at h
  cases h
  rfl

/-- The three bytes at pc are those of the table word placed there, also where pc wraps. -/
theorem codeBytes_withFetchWord (s : State) (nbits w : Nat) : (s.withFetchWord nbits w).codeBytes = tableBytes nbits w := by
  have h01 : s.pc ≠ s.pc + 1#16 := (next_address_ne s.pc).symm
  have h02 : s.pc ≠ s.pc + 2#16 := by bv_omega
  have h12 : s.pc + 1#16 ≠ s.pc + 2#16 := by bv_omega
  simp only [State.codeBytes, tableBytes, List.cons.injEq, and_true]
  refine ⟨?_, ?_, ?_⟩
  · exact ((State.readByte_writeByte_ne _ _ _ _ h02).trans (State.readByte_writeByte_ne _ _ _ _ h01)).trans
      (State.readByte_writeByte_same _ _ _)
  · exact (State.readByte_writeByte_ne _ _ _ _ h12).trans (State.readByte_writeByte_same _ _ _)
  · exact State.readByte_writeByte_same _ _ _

theorem opcode_withFetchWord (s : State) (nbits w : Nat) :
    (s.withFetchWord nbits w).opcode = op (w % 2 ^ nbits % 256) := by
  have h := congrArg (·.headD 0#8) (codeBytes_withFetchWord s nbits w)
  refine h.trans (BitVec.eq_of_toNat_eq ?_)
  simp [tableBytes, op]

/-- What the decoder reads from a table word is what the step fetches where the word is placed. -/
theorem fetch_withFetchWord {nbits w : Nat} {i : Instr} (h : decodeTableWord nbits w = some i) (s : State) :
    (s.withFetchWord nbits w).fetch = i := by
  rw [decodeTableWord, ← codeBytes_withFetchWord s] at h
  split at h
  · next hd => cases h; exact fetch_of_decode_codeBytes hd
  · cases h

end Sys2Proof.Machine
end

section
/-! SUPPORT. Encoding, decoding and the step (30_encoding.md). -/

namespace Sys2Proof.Proofs

open Sys2Proof.Machine Sys2Proof.Claims

/-- Settles O1: what is decoded is written back as it was read, and what is encoded is read back as it was written. -/
theorem decodeAndEncodeAreInverse : Obligations.DecodeAndEncodeAreInverse :=
  fun _ _ _ => decode_eq_ok_iff

/-- Settles O2: an instruction without a handler is one byte of the 12; each of the 12 is decoded to one. -/
theorem everyOpcodeByteIsExactlyOneRow : Obligations.EveryOpcodeByteIsExactlyOneRow := by
  refine ⟨fun b x w => ⟨head_encode_decodeOpcode b x w, fun hi => ?_, fun hb => ?_⟩, fun i b hb => ?_⟩
  · obtain ⟨b', he, -⟩ := exec_unimplemented _ hi State.reset
    have head := head_encode_decodeOpcode b x w
    rw [he] at head
    cases head
    exact List.contains_iff_mem.mp (unimplementedOpcodes_contains hi he)
  · fin_cases hb <;> rfl
  · obtain ⟨operands, he⟩ : ∃ operands, encode i = b :: operands := List.head?_eq_some_iff.mp hb
    exact ⟨_, _, (decodeOpcode_encode he []).symm⟩

/-- Settles O3: an instruction takes a word, a byte or nothing, and each kind has its length. -/
theorem lengthIsAFunctionOfTheOpcodeByte : Obligations.LengthIsAFunctionOfTheOpcodeByte := by
  refine ⟨fun i => ⟨fun h => ?_, TakesWord.length_eq⟩, fun i => ⟨fun h => ?_, TakesByte.length_eq⟩, fun i => ?_,
    fun i j h => ?_⟩
  · rcases takes_cases i with hw | hb | h1
    · exact hw
    · have := hb.length_eq; omega
    · omega
  · rcases takes_cases i with hw | hb | h1
    · have := hw.length_eq; omega
    · exact hb
    · omega
  · rcases takes_cases i with hw | hb | h1
    · exact .inr (.inr hw.length_eq)
    · exact .inr (.inl hb.length_eq)
    · exact .inl h1
  · obtain ⟨b, operands, hj, -⟩ := encode_eq_cons j
    have head : (encode j).head? = some b := by rw [hj]; rfl
    rw [length_eq_opLength head, length_eq_opLength (h.trans head)]

/-- Settles O4, family by family over the operand codes. -/
theorem opcodeBitFieldsOfEveryFamily : Obligations.OpcodeBitFieldsOfEveryFamily := by
  simp only [Obligations.OpcodeBitFieldsOfEveryFamily, low_eq_lowByte, high_eq_highByte]
  refine ⟨fun dst r => ?mov, fun k r => ?alu, fun k v => ?aluImm, fun r v => ?mvi, fun r => ?step, fun p w => ?lxi,
    fun p => ?pair, ?indirect, fun p => ?stack, fun k w => ?cond, fun x y z => ?rst⟩
  case mov => cases dst <;> cases r <;> rfl
  case alu => cases k <;> cases r <;> rfl
  case aluImm => cases k <;> rfl
  case mvi => cases r <;> rfl
  case step => cases r <;> exact ⟨rfl, rfl⟩
  case lxi => cases p <;> rfl
  case pair => cases p <;> exact ⟨rfl, rfl, rfl⟩
  case indirect => exact ⟨rfl, rfl, rfl, rfl⟩
  case stack => cases p <;> exact ⟨rfl, rfl⟩
  case cond => cases k <;> exact ⟨rfl, rfl, rfl⟩
  case rst => cases x <;> cases y <;> cases z <;> rfl

/-- Settles O5: each word is the encoding of its instruction; the two refused lists lack bytes. -/
theorem specExampleWordsDecode : Obligations.SpecExampleWordsDecode := by
  simp only [Obligations.SpecExampleWordsDecode, decode_eq_ok_iff]
  decide

/-- Settles O6: the step fetches the placed word, and its opcode byte is the word's lowest. -/
theorem placedTableWordRunsNext : Obligations.PlacedTableWordRunsNext := by
  intro s nbits w i h
  rw [step_running rfl rfl, fetch_withFetchWord h, opcode_withFetchWord]

/-- Settles O7: faulted, halted, or running, where the settling of a pending EI has its two cases. -/
theorem stepRunsTheDecodedInstruction : Obligations.StepRunsTheDecodedInstruction := by
  refine fun s => ⟨fun r => step_faulted, step_halted, fun hf hh i rest hd => ?_⟩
  obtain ⟨t, ht⟩ := exec_total i s
  have run : step s = .next (t.settleEi s.opcode) := by
    rw [step_running hf hh, fetch_of_decode_codeBytes hd, ht]; rfl
  refine ⟨t, ht, fun settles => ?_, fun stays => ?_⟩
  · rcases t.settleEi_cases s.opcode with ⟨-, -, -, -, ht⟩ | ⟨hne, -⟩
    · rw [run, ht]
    · exact absurd settles hne
  · rcases t.settleEi_cases s.opcode with ⟨hfault, hd, hop, hp, -⟩ | ⟨-, ht⟩
    · exact absurd ⟨hfault, hd, hop, hp⟩ stays
    · rw [run, ht]

end Sys2Proof.Proofs
end

section
/-! SUPPORT. What an instruction writes that ends in one write and the advance of pc: an operand, a pair, a byte, a word; and the
exchange of HL and DE (40_data_transfer.md R130-R143). -/

namespace Sys2Proof.Machine

open Sys2Proof.Claims

section
variable {i : Instr} {s : State} {n : Nat}

/-- An instruction that writes one operand and advances pc writes nothing else (R130-R134). -/
theorem writesOperand_of_exec {dst : Reg8} {v : Byte} (h : exec i s = .next ((s.writeReg dst v).advance n)) :
    ∃ t, exec i s = .next t ∧ WritesOperand dst v s t ∧
      t = { s with regs := t.regs, mem := t.mem, pc := s.pc + BitVec.ofNat 16 n } := by
  refine ⟨_, h, ⟨?_, fun x hx hm => ?_, fun a ha => ?_⟩, ?_⟩
  · rw [State.readReg_advance, State.readReg_writeReg_same]
  · rw [State.readReg_advance, State.readReg_writeReg_ne s dst x v hx hm]
  · rw [State.readByte_advance, State.readByte_writeReg s dst v a ha]
  · rw [State.writeReg_eq]; rfl

@[simp] theorem State.readPair_advance (s : State) (n : Nat) (p : RegPair) : (s.advance n).readPair p = s.readPair p := by
  cases p <;> rfl

@[simp] theorem State.writePair_regs_a (s : State) (p : RegPair) (v : Word) : (s.writePair p v).regs.a = s.regs.a := by
  cases p <;> rfl

/-- An instruction that writes one pair and advances pc writes nothing else (R135; 41_arith_logic_rotate.md R171, R172). -/
theorem writesPair_of_exec {p : RegPair} {v : Word} (h : exec i s = .next ((s.writePair p v).advance n)) :
    ∃ t, exec i s = .next t ∧ WritesPair p v s t ∧
      t = { s with regs := t.regs, sp := t.sp, pc := s.pc + BitVec.ofNat 16 n } := by
  refine ⟨_, h, ⟨?_, fun q hq => ?_, ?_, fun a => ?_⟩, ?_⟩
  · rw [State.readPair_advance, State.readPair_writePair_same]
  · rw [State.readPair_advance, State.readPair_writePair_ne s p q v hq]
  · rw [State.advance_regs, State.writePair_regs_a]
  · rw [State.readByte_advance, State.readByte_writePair]
  · rw [State.writePair_eq]; rfl

/-- An instruction that stores one byte and advances pc writes nothing else (R137, R141). -/
theorem storesByte_of_exec {w : Word} {v : Byte} (h : exec i s = .next ((s.writeByte w v).advance n)) :
    ∃ t, exec i s = .next t ∧ t.readByte w = v ∧ (∀ a, a ≠ w → t.readByte a = s.readByte a) ∧
      t = { s with mem := t.mem, pc := s.pc + BitVec.ofNat 16 n } :=
  ⟨_, h, s.readByte_writeByte_same w v, fun a ha => s.readByte_writeByte_ne w a v ha, rfl⟩

end

/-- A 16-bit write stores the low byte at the address and the high byte at the next (20_memory.md R63, R66). -/
theorem State.storesWord_writeWord (s : State) (a v : Word) : StoresWord a v s (s.writeWord a v) := by
  refine ⟨?_, ?_, fun b hb hb1 => ?_⟩
  · rw [State.readByte_writeWord, if_neg (next_address_ne a).symm, if_pos rfl, low_eq_lowByte]
  · rw [State.readByte_writeWord, if_pos rfl, high_eq_highByte]
  · rw [State.readByte_writeWord, if_neg hb1, if_neg hb]

/-- What writing HL does with a high and a low byte (10_state.md R35). -/
theorem State.writePair_hl_concat16 (s : State) (h l : Byte) :
    s.writePair .hl (concat16 h l) = { s with regs := { s.regs with h := h, l := l } } := by
  rw [State.writePair, highByte_concat16, lowByte_concat16]

/-- What writing DE does with a high and a low byte (10_state.md R35). -/
theorem State.writePair_de_concat16 (s : State) (h l : Byte) :
    s.writePair .de (concat16 h l) = { s with regs := { s.regs with d := h, e := l } } := by
  rw [State.writePair, highByte_concat16, lowByte_concat16]

/-- XCHG by its four registers (R142). -/
theorem exec_xchg (s : State) : exec .xchg s = .next { s with
    regs := { s.regs with h := s.regs.d, l := s.regs.e, d := s.regs.h, e := s.regs.l }, pc := s.pc + 1#16 } := by
  change Host.Outcome.next (((s.writePair .hl (concat16 s.regs.d s.regs.e)).writePair .de
    (concat16 s.regs.h s.regs.l)).advance 1) = _
  rw [State.writePair_hl_concat16, State.writePair_de_concat16]; rfl

end Sys2Proof.Machine
end

section
/-! SUPPORT. Data transfer: loads, stores, moves and the exchange, and what none of them writes (40_data_transfer.md R130-R143). -/

namespace Sys2Proof.Proofs

open Sys2Proof.Machine Sys2Proof.Claims

/-- Settles O24, form by form: each ends in `advance` after writing registers, SP or memory alone. -/
theorem dataTransfersWriteNoFlagAndNoDevice : Obligations.DataTransfersWriteNoFlagAndNoDevice := by
  rintro i s t (⟨dst, r, hd, rfl⟩ | ⟨dst, v, rfl⟩ | ⟨p, w, rfl⟩ | ⟨w, rfl | rfl | rfl | rfl⟩ | rfl | rfl | rfl | rfl | rfl) h
  · rw [exec_movOf dst r hd] at h; cases h; simp
  · rw [exec_mviOf] at h; cases h; simp
  · rw [exec_lxiOf] at h; cases h; simp
  all_goals cases h; exact ⟨rfl, rfl, rfl, rfl⟩

/-- Settles O31: both write one operand, MOV the value its source has before. -/
theorem movAndMviWriteTheirOperand : Obligations.MovAndMviWriteTheirOperand :=
  ⟨fun dst r s hd => writesOperand_of_exec (exec_movOf dst r hd s),
    fun dst v s => writesOperand_of_exec (exec_mviOf dst v s)⟩

/-- Settles O32: the three write one pair; the encodings are those of O4. -/
theorem pairLoadsAndStepsWriteTheirPair : Obligations.PairLoadsAndStepsWriteTheirPair := by
  intro p w s
  have hinc : BitVec.ofNat 16 ((s.readPair p).toNat + 1) = s.readPair p + 1#16 := by bv_omega
  have hdec : BitVec.ofNat 16 ((s.readPair p).toNat + 65535) = s.readPair p - 1#16 := by bv_omega
  obtain ⟨-, -, -, -, -, lxi, steps, -⟩ := opcodeBitFieldsOfEveryFamily
  obtain ⟨inx, dcx, -⟩ := steps p
  rw [hinc, hdec]
  exact ⟨writesPair_of_exec (exec_lxiOf p w s), writesPair_of_exec (exec_inxOf p s), writesPair_of_exec (exec_dcxOf p s),
    lxi p w, inx, dcx⟩

/-- Settles O34: three store A, and SHLD stores the word HL. -/
theorem directAndIndirectStores : Obligations.DirectAndIndirectStores := by
  intro w s
  simp only [pairOf_eq_concat16]
  exact ⟨storesByte_of_exec rfl, storesByte_of_exec rfl, storesByte_of_exec rfl, _, rfl, s.storesWord_writeWord w s.hl, rfl⟩

/-- Settles O33: three load A, and LHLD writes HL with a high and a low byte. -/
theorem directAndIndirectLoads : Obligations.DirectAndIndirectLoads := by
  intro w s
  simp only [pairOf_eq_concat16]
  refine ⟨rfl, rfl, rfl, ?lhld⟩
  change Host.Outcome.next ((s.writePair .hl (s.readWord w)).advance 3) = _
  rw [State.readWord, State.writePair_hl_concat16]; rfl

/-- Settles O35: the second XCHG gives each of the four registers back. -/
theorem xchgExchangesHlAndDe : Obligations.XchgExchangesHlAndDe :=
  fun s => ⟨rfl, _, exec_xchg s, rfl, _, exec_xchg _, rfl⟩

end Sys2Proof.Proofs
end

section
/-! SUPPORT. The flags as the claims state them, the forms of an ALU operation, INR, DCR and DAD as one write with its flags, rotates
bit by bit, DAA in plain arithmetic (41_arith_logic_rotate.md R150-R193). -/

namespace Sys2Proof.Machine

open Sys2Proof.Claims

/-! ## Bytes by number -/

@[simp] theorem op_toNat (n : Nat) : (op n).toNat = n % 256 := BitVec.toNat_ofNat n 8

theorem op_toNat_self (x : Byte) : op x.toNat = x := BitVec.eq_of_toNat_eq (by rw [op_toNat, Nat.mod_eq_of_lt x.isLt])

theorem op_congr {m n : Nat} (h : m % 256 = n % 256) : op m = op n := by
  apply BitVec.eq_of_toNat_eq
  rw [op_toNat, op_toNat, h]

theorem op_mod (n : Nat) : op (n % 256) = op n := op_congr (Nat.mod_mod n 256)

theorem bcd_toNat {n : Nat} (h : n < 100) : (bcd n).toNat = 16 * (n / 10) + n % 10 := by
  rw [bcd, op_toNat]; omega

/-! ## Flags of a result (R153, R154) -/

@[simp] theorem resultFlags_carry (x : Byte) (cy ac : Bool) : (resultFlags x cy ac).carry = cy := rfl

/-- The parity of the model, a sum of bits, is the count of the claims (00_scope.md R14). -/
theorem parity_eq_evenOnes (x : Byte) : parity x = evenOnes x := by
  simp only [parity, evenOnes, List.range_succ, List.range_zero, List.nil_append, List.countP_append, List.countP_singleton]
  simp [Bool.toNat, cond_eq_ite, beq_eq_decide]

theorem Flags.zsp_eq (f : Flags) (x : Byte) : f.zsp x = resultFlags x f.carry f.auxCarry := by
  rw [Flags.zsp, resultFlags, zero_flag, sign_flag, parity_eq_evenOnes]

theorem Flags.arith_eq (f : Flags) (r : AluOut) : f.arith r = resultFlags r.res r.cy r.ac := by
  rw [Flags.arith, Flags.zsp_eq]; rfl

theorem Flags.logic_eq (f : Flags) (x : Byte) : f.logic x = resultFlags x false false := by
  rw [Flags.logic, Flags.zsp_eq]; rfl

theorem Flags.incDec_eq (f : Flags) (r : AluOut) : f.incDec r = resultFlags r.res f.carry r.ac := by
  rw [Flags.incDec, Flags.zsp_eq]; rfl

/-! ## Adders (R150, R151) -/

theorem add8_eq (x y : Byte) (cin : Bool) :
    add8 x y cin = { res := BitVec.ofNat 8 (x.toNat + y.toNat + cin.toNat)
                     cy := decide (255 < x.toNat + y.toNat + cin.toNat)
                     ac := decide (15 < x.toNat % 16 + y.toNat % 16 + cin.toNat) } := by
  rw [← add8_ac]; rfl

theorem sub8_eq (x y : Byte) (bin : Bool) :
    sub8 x y bin = { res := BitVec.ofInt 8 ((x.toNat : Int) - y.toNat - bin.toNat)
                     cy := decide (x.toNat < y.toNat + bin.toNat)
                     ac := decide (15 < x.toNat % 16 + (15 - y.toNat % 16) + (1 - bin.toNat)) } := by
  rw [← sub8_res, ← sub8_cy, ← sub8_ac]

/-! ## The two forms of an ALU operation -/

/-- Both forms of an ALU operation that leaves A and the flags as `a` and `f` end in them, past their own length. -/
theorem exec_alu_forms {k : AluOp} {v a : Byte} {f : Flags} {s : State}
    (h : aluApply k v s = { s with regs := { s.regs with a := a }, flags := f }) :
    (∀ r, s.readReg r = v → exec (.aluOf k r) s = .next (aluResult a f 1 s)) ∧
    exec (.aluImmOf k v) s = .next (aluResult a f 2 s) := by
  constructor
  · rintro r rfl
    rw [exec_aluOf, aluReg, h]; rfl
  · rw [exec_aluImmOf, aluImm, h]; rfl

theorem State.accumulate_eq (s : State) (r : AluOut) :
    s.accumulate r = { s with regs := { s.regs with a := r.res }, flags := resultFlags r.res r.cy r.ac } := by
  rw [State.accumulate, Flags.arith_eq]

theorem State.accumulateLogic_eq (s : State) (x : Byte) :
    s.accumulateLogic x = { s with regs := { s.regs with a := x }, flags := resultFlags x false false } := by
  rw [State.accumulateLogic, Flags.logic_eq]

/-- CMP writes the flags of the difference and leaves A (R186-R188). -/
theorem aluApply_cmp (v : Byte) (s : State) :
    aluApply .cmp v s = { s with flags := resultFlags (sub8 s.regs.a v false).res (sub8 s.regs.a v false).cy
                                            (sub8 s.regs.a v false).ac } := by
  rw [aluApply, Flags.arith_eq]

/-! ## One write with its flags: INR, DCR, DAD (R167-R170, R173) -/

/-- What operands and pairs read as depends on registers, SP and memory alone. -/
theorem readReg_congr {t u : State} (hr : u.regs = t.regs) (hm : u.mem = t.mem) (x : Reg8) : u.readReg x = t.readReg x := by
  cases x <;> simp [State.readReg, State.readByte, State.hl, hr, hm]

theorem readPair_congr {t u : State} (hr : u.regs = t.regs) (hs : u.sp = t.sp) (p : RegPair) :
    u.readPair p = t.readPair p := by
  cases p <;> simp [State.readPair, hr, hs]

section
variable {i : Instr} {s : State} {f : Flags} {n : Nat}

/-- An instruction that writes one operand and the flags and advances pc writes nothing else. -/
theorem writesOperand_of_exec_flags {dst : Reg8} {v : Byte}
    (h : exec i s = .next ({ s.writeReg dst v with flags := f }.advance n)) :
    ∃ t, exec i s = .next t ∧ WritesOperand dst v s t ∧
      t = { s with regs := t.regs, mem := t.mem, pc := s.pc + BitVec.ofNat 16 n, flags := f } := by
  have hread := readReg_congr (t := s.writeReg dst v) (u := { s.writeReg dst v with flags := f }.advance n) rfl rfl
  refine ⟨_, h, ⟨?_, fun x hx hm => ?_, fun a ha => s.readByte_writeReg dst v a ha⟩, ?_⟩
  · rw [hread, State.readReg_writeReg_same]
  · rw [hread, State.readReg_writeReg_ne s dst x v hx hm]
  · rw [State.writeReg_eq]; rfl

/-- An instruction that writes HL and the flags and advances pc writes nothing else. -/
theorem writesHl_of_exec_flags {v : Word} (h : exec i s = .next ({ s.writePair .hl v with flags := f }.advance n)) :
    ∃ t, exec i s = .next t ∧ WritesPair .hl v s t ∧
      t = { s with regs := t.regs, pc := s.pc + BitVec.ofNat 16 n, flags := f } := by
  have hread := readPair_congr (t := s.writePair .hl v) (u := { s.writePair .hl v with flags := f }.advance n) rfl rfl
  refine ⟨_, h, ⟨?_, fun q hq => ?_, rfl, fun a => rfl⟩, rfl⟩
  · rw [hread, State.readPair_writePair_same]
  · rw [hread, State.readPair_writePair_ne s .hl q v hq]

end

/-! ## Rotates bit by bit (R189-R192) -/

theorem getElem_bit8 (b : Bool) (i : Nat) (hi : i < 8) : (bit8 b)[i] = (decide (i = 0) && b) := by
  cases b <;> simp [bit8]

/-- One place to the left, with `c` into bit 0. -/
theorem getElem_shiftLeft_or_bit8 (a : Byte) (c : Bool) (i : Nat) (hi : i < 8) :
    ((a <<< 1) ||| bit8 c)[i] = if i = 0 then c else a[i - 1] := by
  by_cases h : i = 0 <;> simp [getElem_bit8, h]

/-- One place to the right, with `c` into bit 7. -/
theorem getElem_shiftRight_or_bit8 (a : Byte) (c : Bool) (i : Nat) (hi : i < 8) :
    ((a >>> 1) ||| (bit8 c <<< 7))[i] = if h : i = 7 then c else a[i + 1] := by
  by_cases h : i = 7
  · subst h; simp [getElem_bit8]
  · have low : i < 7 := by omega
    have next : i + 1 < 8 := by omega
    simp [h, low, Nat.add_comm 1, BitVec.getLsbD_eq_getElem next]

theorem rlc_eq_rotateLeft (a : Byte) : (a <<< 1) ||| bit8 (a.getLsbD 7) = a.rotateLeft 1 := by
  ext i hi
  simp only [BitVec.getElem_rotateLeft, getElem_shiftLeft_or_bit8]
  grind

theorem rrc_eq_rotateRight (a : Byte) : (a >>> 1) ||| (bit8 (a.getLsbD 0) <<< 7) = a.rotateRight 1 := by
  ext i hi
  simp only [BitVec.getElem_rotateRight, getElem_shiftRight_or_bit8]
  grind

theorem ral_eq_rotateLeft (a : Byte) (c : Bool) :
    BitVec.ofBool (a.getLsbD 7) ++ ((a <<< 1) ||| bit8 c) = (BitVec.ofBool c ++ a).rotateLeft 1 := by
  ext i hi
  simp only [BitVec.getElem_rotateLeft, BitVec.getElem_append, getElem_shiftLeft_or_bit8]
  grind

theorem rar_eq_rotateRight (a : Byte) (c : Bool) :
    BitVec.ofBool (a.getLsbD 0) ++ ((a >>> 1) ||| (bit8 c <<< 7)) = (BitVec.ofBool c ++ a).rotateRight 1 := by
  ext i hi
  simp only [BitVec.getElem_rotateRight, BitVec.getElem_append, getElem_shiftRight_or_bit8]
  grind

theorem not_eq_sub_toNat (x : Byte) : ~~~x = op (255 - x.toNat) := by
  apply BitVec.eq_of_toNat_eq
  rw [BitVec.toNat_not, op_toNat]
  omega

/-! ## DAA in plain arithmetic (R174-R176) -/

theorem exec_daa (s : State) :
    exec .daa s = .next (aluResult (daa s.params.daaVariant s.regs.a s.flags).1
      (daa s.params.daaVariant s.regs.a s.flags).2 1 s) := rfl

theorem daaIntelLow_eq (a : Byte) (f : Flags) : daaIntelLow a f = (decide (9 < a.toNat % 16) || f.auxCarry) := by
  rw [daaIntelLow, low_nibble, Bool.decide_or, Bool.decide_eq_true]

theorem daaIntelHigh_eq (a : Byte) (f : Flags) : daaIntelHigh a f
    = (decide (9 < a.toNat / 16) || f.carry || (decide (9 ≤ a.toNat / 16) && decide (9 < a.toNat % 16))) := by
  simp only [daaIntelHigh, low_nibble, high_nibble, Bool.decide_or, Bool.decide_and, Bool.decide_eq_true, Bool.or_assoc]

/-- The document's first step: an ADD of 6, or nothing (R175). -/
theorem daaDocLow_eq (a : Byte) (f : Flags) : daaDocLow a f =
    if decide (9 < a.toNat % 16) || f.auxCarry then
      (op (a.toNat + 6), resultFlags (op (a.toNat + 6)) (decide (255 < a.toNat + 6)) (decide (15 < a.toNat % 16 + 6)))
    else (a, f) := by
  simp only [daaDocLow, daaAdjust, Flags.arith_eq, add8_eq, low_nibble, Bool.or_eq_true, decide_eq_true_eq]
  rfl

/-- The document's second step: an ADD of 0x60, which carries nothing out of bit 3, or nothing (R175). -/
theorem daaDocHigh_eq (a : Byte) (f : Flags) : daaDocHigh a f =
    if decide (9 < a.toNat / 16) || f.carry then
      (op (a.toNat + 0x60), resultFlags (op (a.toNat + 0x60)) (decide (255 < a.toNat + 0x60)) false)
    else (a, f) := by
  have hac : ¬ 15 < a.toNat % 16 + (0x60#8).toNat % 16 + false.toNat := by
    change ¬ 15 < a.toNat % 16 + 0 + 0
    omega
  simp only [daaDocHigh, daaAdjust, Flags.arith_eq, add8_eq, high_nibble, Bool.or_eq_true, decide_eq_true_eq, hac,
    decide_false]
  rfl

theorem daaIntelCorrection_low_nibble (a : Byte) (f : Flags) :
    (daaIntelCorrection a f).toNat % 16 = if daaIntelLow a f then 6 else 0 := by
  rw [daaIntelCorrection_toNat]; cases daaIntelLow a f <;> cases daaIntelHigh a f <;> rfl

/-- The Intel variant: one ADD of the correction, whose CY the high correction sets and nothing clears (R176). -/
theorem daaIntel_eq (a : Byte) (f : Flags) : daaIntel a f =
    (op (a.toNat + (daaIntelCorrection a f).toNat), resultFlags (op (a.toNat + (daaIntelCorrection a f).toNat))
      (f.carry || daaIntelHigh a f) (decide (15 < a.toNat % 16 + if daaIntelLow a f then 6 else 0))) := by
  simp only [daaIntel, Flags.arith_eq, add8_eq, daaIntelCorrection_low_nibble]
  rfl

end Sys2Proof.Machine
end

section
/-! SUPPORT. DAA after an ADD of decimal digits, in both variants (41_arith_logic_rotate.md R174-R176). -/

namespace Sys2Proof.Machine

open Sys2Proof.Claims

/-- `a` and `f` are what an ADD of two bytes of decimal digits leaves in A and the flags, where the high digits sum to `hi` and
the low digits to `lo`. -/
structure DigitSum (hi lo : Nat) (a : Byte) (f : Flags) : Prop where
  hi_le : hi ≤ 18
  lo_le : lo ≤ 18
  toNat : a.toNat = (16 * hi + lo) % 256
  carry : f.carry = decide (255 < 16 * hi + lo)
  auxCarry : f.auxCarry = decide (15 < lo)

theorem digitSum_add8 {x y : Nat} (hx : x < 100) (hy : y < 100) (f : Flags) :
    DigitSum (x / 10 + y / 10) (x % 10 + y % 10) (add8 (bcd x) (bcd y) false).res
      (f.arith (add8 (bcd x) (bcd y) false)) := by
  have sum : (bcd x).toNat + (bcd y).toNat = 16 * (x / 10 + y / 10) + (x % 10 + y % 10) := by
    rw [bcd_toNat hx, bcd_toNat hy]; omega
  have low : (bcd x).toNat % 16 + (bcd y).toNat % 16 = x % 10 + y % 10 := by
    rw [bcd_toNat hx, bcd_toNat hy]; omega
  simp only [Flags.arith_eq, add8_eq, Bool.toNat_false, Nat.add_zero, sum, low]
  exact ⟨by omega, by omega, BitVec.toNat_ofNat _ _, rfl, rfl⟩

namespace DigitSum

variable {hi lo : Nat} {a : Byte} {f : Flags} (h : DigitSum hi lo a f)
include h

/-- The low correction is due where the low digits carry. -/
theorem daaIntelLow_eq_digits : daaIntelLow a f = decide (9 < lo) := by
  obtain ⟨hhi, hlo, ha, -, hac⟩ := h
  rw [daaIntelLow_eq, hac, ← Bool.decide_or, decide_eq_decide]
  omega

/-- The high correction is due where the sum is 100 or more, whether the binary sum stays below 256 or wraps. -/
theorem daaIntelHigh_eq_digits : daaIntelHigh a f = decide (99 < 10 * hi + lo) := by
  obtain ⟨hhi, hlo, ha, hc, -⟩ := h
  rw [daaIntelHigh_eq, hc, ← Bool.decide_or, ← Bool.decide_and, ← Bool.decide_or, decide_eq_decide]
  rcases Nat.lt_or_ge (16 * hi + lo) 256 with hstays | hwraps
  · omega
  · omega

/-- The two corrections turn the binary sum into the decimal one. -/
theorem corrected_eq_bcd : op (a.toNat + ((if 9 < lo then 6 else 0) + (if 99 < 10 * hi + lo then 0x60 else 0)))
    = bcd ((10 * hi + lo) % 100) := by
  obtain ⟨hhi, hlo, ha, -, -⟩ := h
  have ones : (10 * hi + lo) % 100 % 10 = lo - (if 9 < lo then 10 else 0) := by split <;> omega
  have tens : (10 * hi + lo) % 100 / 10
      = hi + (if 9 < lo then 1 else 0) - (if 99 < 10 * hi + lo then 10 else 0) := by split <;> split <;> omega
  rw [bcd, tens, ones, ha]
  apply op_congr
  rw [Nat.mod_add_mod]
  split <;> split <;> omega

theorem daaIntel_correct :
    (daaIntel a f).1 = bcd ((10 * hi + lo) % 100) ∧ (daaIntel a f).2.carry = decide (99 < 10 * hi + lo) := by
  rw [← h.corrected_eq_bcd]
  simp only [daaIntel_eq, daaIntelCorrection_toNat, h.daaIntelLow_eq_digits, h.daaIntelHigh_eq_digits, decide_eq_true_eq,
    resultFlags_carry, h.carry]
  rw [true_and, ← Bool.decide_or, decide_eq_decide]
  have hlo := h.lo_le
  omega

/-- For a sum below 150 the document's first step leaves no carry, so that its second step tests the high nibble alone. -/
theorem daaDocLow_correct (hsum : 10 * hi + lo < 150) :
    (daaDocLow a f).1.toNat = a.toNat + (if 9 < lo then 6 else 0) ∧ (daaDocLow a f).2.carry = false ∧
      (9 < (daaDocLow a f).1.toNat / 16 ↔ 99 < 10 * hi + lo) := by
  rw [daaDocLow_eq, ← daaIntelLow_eq, h.daaIntelLow_eq_digits]
  obtain ⟨-, hlo, ha, hc, -⟩ := h
  have hhi : hi < 15 := by omega
  rw [Nat.mod_eq_of_lt (by omega)] at ha
  by_cases hcarry : 9 < lo
  · have nowrap : (a.toNat + 6) % 256 = a.toNat + 6 := Nat.mod_eq_of_lt (by omega)
    simp only [hcarry, decide_true, if_true, op_toNat, nowrap, resultFlags_carry, decide_eq_false_iff_not, true_and]
    omega
  · simp only [hcarry, decide_false, Bool.false_eq_true, if_false, hc, decide_eq_false_iff_not]
    omega

theorem daaDoc_correct (hsum : 10 * hi + lo < 150) :
    (daaDoc a f).1 = bcd ((10 * hi + lo) % 100) ∧ (daaDoc a f).2.carry = decide (99 < 10 * hi + lo) := by
  obtain ⟨ha, hcy, hhigh⟩ := h.daaDocLow_correct hsum
  rw [← h.corrected_eq_bcd, daaDoc, daaDocHigh_eq, hcy, Bool.or_false, ha, ← Nat.add_assoc, ← ha]
  simp only [hhigh, decide_eq_true_eq]
  split
  case isTrue h100 =>
    refine ⟨rfl, ?_⟩
    rw [resultFlags_carry, decide_eq_decide]
    omega
  case isFalse h100 =>
    exact ⟨(op_toNat_self _).symm, by rw [hcy, decide_eq_false h100]⟩

theorem daa_correct {v : DaaVariant} (hv : v = .intel8080 ∨ 10 * hi + lo < 150) :
    (daa v a f).1 = bcd ((10 * hi + lo) % 100) ∧ (daa v a f).2.carry = decide (99 < 10 * hi + lo) := by
  cases v with
  | docSequential => exact h.daaDoc_correct (hv.resolve_left nofun)
  | intel8080 => exact h.daaIntel_correct

end DigitSum

end Sys2Proof.Machine
end

section
/-! SUPPORT. Arithmetic, logic, rotate (41_arith_logic_rotate.md). -/

namespace Sys2Proof.Proofs

open Sys2Proof.Machine Sys2Proof.Claims

/-- Settles O36: both operations accumulate what the adder gives, ADC with CY as its carry-in. -/
theorem addAndAdcGiveSumAndFiveFlags : Obligations.AddAndAdcGiveSumAndFiveFlags := by
  rintro v s k c (⟨rfl, rfl⟩ | ⟨rfl, rfl⟩) <;>
    exact exec_alu_forms (by rw [aluApply, State.accumulate_eq, add8_eq])

/-- Settles O37: SUB and SBB accumulate what the subtractor gives, CMP writes its flags alone. -/
theorem subSbbAndCmpGiveDifferenceAndBorrow : Obligations.SubSbbAndCmpGiveDifferenceAndBorrow := by
  rintro v s k c (⟨rfl, rfl⟩ | ⟨rfl, rfl⟩ | ⟨rfl, rfl⟩)
  case inr.inr => exact exec_alu_forms (by rw [aluApply_cmp, sub8_eq]; rfl)
  all_goals exact exec_alu_forms (by rw [aluApply, State.accumulate_eq, sub8_eq]; rfl)

/-- Settles O38: each operation accumulates its bitwise result. -/
theorem logicalOperationsClearCarryAndAuxCarry : Obligations.LogicalOperationsClearCarryAndAuxCarry := by
  rintro v s k (rfl | rfl | rfl)
  · exact ⟨s.regs.a &&& v, fun j _ => BitVec.getLsbD_and, exec_alu_forms (s.accumulateLogic_eq _)⟩
  · exact ⟨s.regs.a ^^^ v, fun j _ => BitVec.getLsbD_xor, exec_alu_forms (s.accumulateLogic_eq _)⟩
  · exact ⟨s.regs.a ||| v, fun j _ => BitVec.getLsbD_or, exec_alu_forms (s.accumulateLogic_eq _)⟩

/-- Settles O39: the operand is stepped by 1 with the flags of the adder, CY apart. -/
theorem inrAndDcrLeaveCarry : Obligations.InrAndDcrLeaveCarry := by
  intro r s
  have inc : (add8 (s.readReg r) 1#8 false).ac = decide ((s.readReg r).toNat % 16 = 15) := by
    rw [add8_ac, decide_eq_decide]
    change 15 < (s.readReg r).toNat % 16 + 1 + 0 ↔ _
    omega
  have dec : (sub8 (s.readReg r) 1#8 false).ac = decide ((s.readReg r).toNat % 16 ≠ 0) := by
    rw [sub8_ac, decide_eq_decide]
    change 15 < (s.readReg r).toNat % 16 + 14 + 1 ↔ _
    omega
  constructor
  · rw [← inc, ← add8_one_res, ← Flags.incDec_eq]
    exact writesOperand_of_exec_flags (exec_inrOf r s)
  · rw [← dec, ← sub8_one_res, ← Flags.incDec_eq]
    exact writesOperand_of_exec_flags (exec_dcrOf r s)

/-- Settles O40: DAD writes HL and CY; the encoding is that of O4. -/
theorem dadAddsToHlAndSetsOnlyCarry : Obligations.DadAddsToHlAndSetsOnlyCarry := by
  intro p s
  obtain ⟨-, -, -, -, -, -, pairs, -⟩ := opcodeBitFieldsOfEveryFamily
  obtain ⟨-, -, encoding⟩ := pairs p
  exact ⟨encoding, writesHl_of_exec_flags (exec_dadOf p s)⟩

/-- Settles O41: the document's two steps in turn, or the Intel variant's one correction. -/
theorem daaAdjustsByItsVariant : Obligations.DaaAdjustsByItsVariant := by
  intro s
  refine ⟨fun hv => ?doc, fun hv => ?intel⟩
  case doc =>
    rw [exec_daa, hv, daa, daaDoc, daaDocLow_eq]
    split
    case isTrue =>
      simp only [daaDocHigh_eq, op_toNat, op_mod, resultFlags_carry]
      split <;> rfl
    case isFalse =>
      simp only [daaDocHigh_eq]
      split <;> rfl
  case intel =>
    simp only [exec_daa, hv, daa, daaIntel_eq, daaIntelCorrection_toNat, daaIntelLow_eq, daaIntelHigh_eq, Nat.add_assoc]

/-- Settles O42: ADI leaves the sum of the digits, which DAA corrects. -/
theorem daaMakesAdditionDecimal : Obligations.DaaMakesAdditionDecimal := by
  intro x y s hx hy ha hv
  have digits : 10 * (x / 10 + y / 10) + (x % 10 + y % 10) = x + y := by omega
  have sum := digitSum_add8 hx hy s.flags
  rw [← ha] at sum
  obtain ⟨hA, hCY⟩ := sum.daa_correct (digits ▸ hv)
  rw [digits] at hA hCY
  exact ⟨_, _, rfl, rfl, hA, hCY⟩

/-- Settles O43: each rotate shifts by one place and puts a bit into the place left free. -/
theorem rotatesMoveOneBitAndWriteOnlyCarry : Obligations.RotatesMoveOneBitAndWriteOnlyCarry := by
  intro s
  refine ⟨?_, ?_, ⟨_, rfl, ral_eq_rotateLeft _ _⟩, _, rfl, rar_eq_rotateRight _ _⟩
  · rw [← rlc_eq_rotateLeft]; rfl
  · rw [← rrc_eq_rotateRight]; rfl

/-- Settles O44: the complement is 255 minus A and undoes itself. -/
theorem complementAndCarryControl : Obligations.ComplementAndCarryControl := by
  intro s
  refine ⟨⟨_, rfl, ?_, _, rfl, ?_, rfl⟩, rfl, rfl⟩
  · rw [← not_eq_sub_toNat]; rfl
  · simp

end Sys2Proof.Proofs
end

section
/-! SUPPORT. A push undone by a pop, and the rules of jump, call and return (42_branch.md R210-R219; 43_stack_io_machine.md R230-R235). -/

namespace Sys2Proof.Machine

open Sys2Proof.Claims

/-- A pop after a push leaves SP, and all else but memory, as before (43_stack_io_machine.md R230, R231). -/
theorem State.drop16_push16 (s : State) (v : Word) : (s.push16 v).drop16 = { s with mem := (s.push16 v).mem } := by
  have hsp : (s.push16 v).drop16.sp = s.sp := s.drop16_push16_sp v
  calc (s.push16 v).drop16
      = { s with mem := (s.push16 v).mem, sp := (s.push16 v).drop16.sp } := rfl
    _ = { s with mem := (s.push16 v).mem } := by rw [hsp]

/-- POP of what PUSH takes from a pair leaves the pair, A and the flags as they are (43_stack_io_machine.md R232-R235). -/
@[simp] theorem State.writeStackPair_readStackPair (s : State) (p : StackPair) : s.writeStackPair p (s.readStackPair p) = s := by
  cases p
  case psw => simp [State.writeStackPair, State.readStackPair]
  all_goals simp [State.writeStackPair, State.readStackPair, State.readPair, State.writePair]

/-! What PUSH takes does not depend on memory, pc and SP. -/
@[simp] theorem State.readStackPair_advance (s : State) (n : Nat) (p : StackPair) :
    (s.advance n).readStackPair p = s.readStackPair p := by cases p <;> rfl
@[simp] theorem State.readStackPair_push16 (s : State) (v : Word) (p : StackPair) :
    (s.push16 v).readStackPair p = s.readStackPair p := by cases p <;> rfl
@[simp] theorem State.readStackPair_drop16 (s : State) (p : StackPair) :
    s.drop16.readStackPair p = s.readStackPair p := by cases p <;> rfl

/-- POP where the top of the stack is what the pair holds already writes SP and pc alone. -/
theorem popPair_of_top16_eq {p : StackPair} {s : State} (h : s.top16 = s.readStackPair p) :
    popPair p s = .next (s.drop16.advance 1) := by
  rw [popPair, h, ← State.readStackPair_drop16, State.writeStackPair_readStackPair]

/-- POP of the pair just pushed leaves all but memory as before the push, and pc past both instructions (R219). -/
theorem popPair_after_push (p : StackPair) (s : State) :
    popPair p ((s.push16 (s.readStackPair p)).advance 1)
      = .next { s with mem := (s.push16 (s.readStackPair p)).mem, pc := s.pc + 2#16 } := by
  have htop : ((s.push16 (s.readStackPair p)).advance 1).top16 = s.readStackPair p := s.top16_push16 _
  have hdrop : ((s.push16 (s.readStackPair p)).advance 1).drop16
      = { s with mem := (s.push16 (s.readStackPair p)).mem, pc := s.pc + 1#16 } :=
    congrArg (State.advance · 1) (s.drop16_push16 _)
  have hpc : s.pc + 1#16 + 1#16 = s.pc + 2#16 := by bv_omega
  rw [popPair_of_top16_eq (by simpa using htop), hdrop, ← hpc]; rfl

/-- The pop of pc, by the two bytes at SP (43_stack_io_machine.md R231). -/
theorem State.popPc_eq (s : State) : s.popPc = { s with pc := wordAt s s.sp, sp := s.sp + 2#16 } := by
  rw [wordAt, pairOf_eq_concat16]; rfl

/-- A return after a call resumes after the call, with all else but memory as before (R213, R215, R219). -/
theorem State.popPc_callTo (s : State) (n : Nat) (w : Word) :
    (s.callTo n w).popPc = { s with mem := (s.callTo n w).mem, pc := s.pc + BitVec.ofNat 16 n } := by
  have hdrop : (s.callTo n w).drop16 = { s with mem := (s.callTo n w).mem, pc := w } :=
    congrArg (State.jump · w) (s.drop16_push16 _)
  have htop : (s.callTo n w).top16 = s.pc + BitVec.ofNat 16 n := s.top16_push16 _
  rw [State.popPc, hdrop, htop]; rfl

/-- An instruction that calls pushes the address after it, goes to its target and writes nothing else (R213, R214, R217). -/
theorem pushes_return_of_exec {i : Instr} {s : State} {n : Nat} {w : Word} (h : exec i s = .next (s.callTo n w)) :
    ∃ t, exec i s = .next t ∧ StoresWord (s.sp - 2#16) (s.pc + BitVec.ofNat 16 n) s t ∧
      t = { s with mem := t.mem, sp := s.sp - 2#16, pc := w } :=
  ⟨_, h, s.storesWord_writeWord _ _, rfl⟩

/-- Jcond, Ccond and Rcond by the condition as the claims state it (R210, R212, R214, R216). -/
theorem exec_jcondOf_ite (k : Cond) (w : Word) (s : State) :
    exec (.jcondOf k w) s = .next (if taken k s then s.jump w else s.advance 3) := by
  rw [exec_jcondOf, taken_eq_holds]; rfl
theorem exec_ccondOf_ite (k : Cond) (w : Word) (s : State) :
    exec (.ccondOf k w) s = .next (if taken k s then s.callTo 3 w else s.advance 3) := by
  rw [exec_ccondOf, taken_eq_holds]; rfl
theorem exec_rcondOf_ite (k : Cond) (s : State) :
    exec (.rcondOf k) s = .next (if taken k s then s.popPc else s.advance 1) := by
  rw [exec_rcondOf, taken_eq_holds]; rfl

end Sys2Proof.Machine
end

section
/-! SUPPORT. Branch, call and return (42_branch.md). -/

namespace Sys2Proof.Proofs

open Sys2Proof.Machine Sys2Proof.Claims

/-- Settles O46: each pushes by `callTo`, Ccond where its condition holds; the encodings are those of O4. -/
theorem callsPushTheReturnAddress : Obligations.CallsPushTheReturnAddress := by
  intro w s
  obtain ⟨-, -, -, -, -, -, -, -, -, cond, rst⟩ := opcodeBitFieldsOfEveryFamily
  refine ⟨⟨?callBytes, pushes_return_of_exec rfl⟩, fun k => ⟨?ccondBytes, fun hk => ?ccondTaken, fun hk => ?ccondNot⟩,
    fun x y z => ⟨rst x y z, pushes_return_of_exec (exec_rstOfBits x y z s)⟩⟩
  case callBytes => rw [low_eq_lowByte, high_eq_highByte]; rfl
  case ccondBytes =>
    obtain ⟨-, ccond, -⟩ := cond k w
    exact ccond
  case ccondTaken => exact pushes_return_of_exec (by rw [exec_ccondOf_ite, if_pos hk])
  case ccondNot => rw [exec_ccondOf_ite, hk]; rfl

/-- Settles O48: the pop reads what the push stored, and SP comes back. -/
theorem pushPopAndCallRetAreBalanced : Obligations.PushPopAndCallRetAreBalanced :=
  ⟨fun p s => ⟨_, _, exec_pushOf p s, (exec_popOf p _).trans (popPair_after_push p s), rfl⟩,
    fun w s => ⟨_, _, rfl, congrArg Host.Outcome.next (s.popPc_callTo 3 w), rfl⟩⟩

/-- Settles O45: each is one `jump`, Jcond where its condition holds; the encodings of Jcond are those of O4. -/
theorem jumpsGoToTheirTarget : Obligations.JumpsGoToTheirTarget := by
  intro k w s
  obtain ⟨-, -, -, -, -, -, -, -, -, cond, -⟩ := opcodeBitFieldsOfEveryFamily
  obtain ⟨jcond, -, -⟩ := cond k w
  refine ⟨?jmpBytes, rfl, rfl, ?pchl, jcond, ?jcond⟩
  case jmpBytes => rw [low_eq_lowByte, high_eq_highByte]; rfl
  case pchl => rw [pairOf_eq_concat16]; rfl
  case jcond => rw [exec_jcondOf_ite]; split <;> rfl

/-- Settles O47: each is one `popPc`, Rcond where its condition holds; the encoding of Rcond is that of O4. -/
theorem returnsPopThePc : Obligations.ReturnsPopThePc := by
  intro k s
  obtain ⟨-, -, -, -, -, -, -, -, -, cond, -⟩ := opcodeBitFieldsOfEveryFamily
  obtain ⟨-, -, rcond⟩ := cond k 0#16
  rw [← s.popPc_eq, exec_rcondOf_ite]
  exact ⟨rfl, rfl, rcond, fun hk => by rw [if_pos hk], fun hk => by rw [hk]; rfl⟩

end Sys2Proof.Proofs
end

section
/-! SUPPORT. A word stored and put back, XTHL by its registers, EI by its parameter, and the settling of a pending EI after an
implemented instruction (43_stack_io_machine.md R236, R240-R243; 30_encoding.md R99). -/

namespace Sys2Proof.Machine

open Sys2Proof.Claims

/-! ## Words by their bytes -/

@[simp] theorem low_pairOf (h l : Byte) : low (pairOf h l) = l := by
  rw [pairOf_eq_concat16, low_eq_lowByte, lowByte_concat16]

@[simp] theorem high_pairOf (h l : Byte) : high (pairOf h l) = h := by
  rw [pairOf_eq_concat16, high_eq_highByte, highByte_concat16]

/-- Storing at `a` the word that `a` held before another store there gives every byte of memory back. -/
theorem sameMemory_of_storesWord_wordAt {a v : Word} {s t u : State} (there : StoresWord a v s t)
    (back : StoresWord a (wordAt s a) t u) : SameMemory s u := by
  obtain ⟨-, -, ht⟩ := there
  obtain ⟨hlow, hhigh, hu⟩ := back
  intro b
  by_cases h0 : b = a
  · rw [h0, hlow, wordAt, low_pairOf]
  by_cases h1 : b = a + 1#16
  · rw [h1, hhigh, wordAt, high_pairOf]
  · rw [hu b h0 h1, ht b h0 h1]

/-! ## PUSH of a register pair and XTHL -/

/-- PUSH of a pair with the halves `h` and `l` stores them as one word below SP and writes nothing else (R230, R232). -/
theorem push_storesWord {p : StackPair} {s : State} {h l : Byte} (hp : s.readStackPair p = concat16 h l) :
    ∃ t, exec (.pushOf p) s = .next t ∧ StoresWord (s.sp - 2#16) (pairOf h l) s t ∧
      t = { s with mem := t.mem, sp := s.sp - 2#16, pc := s.pc + 1#16 } := by
  rw [pairOf_eq_concat16, ← hp]
  exact ⟨_, exec_pushOf p s, s.storesWord_writeWord _ _, rfl⟩

/-- XTHL by its two registers and the word it stores (R236). -/
theorem exec_xthl (s : State) : exec .xthl s = .next { s with
    mem := (s.writeWord s.sp s.hl).mem, pc := s.pc + 1#16,
    regs := { s.regs with l := s.readByte s.sp, h := s.readByte (s.sp + 1#16) } } := by
  change Host.Outcome.next (((s.writeWord s.sp s.hl).writePair .hl (s.readWord s.sp)).advance 1) = _
  rw [State.readWord, State.writePair_hl_concat16]; rfl

/-- XTHL stores HL at SP, takes HL from there and writes nothing else but pc (R236). -/
theorem xthl_storesWord (s : State) :
    ∃ t, exec .xthl s = .next t ∧ StoresWord s.sp (pairOf s.regs.h s.regs.l) s t ∧
      t = { s with mem := t.mem, pc := s.pc + 1#16,
                   regs := { s.regs with l := s.readByte s.sp, h := s.readByte (s.sp + 1#16) } } := by
  rw [pairOf_eq_concat16]
  exact ⟨_, exec_xthl s, s.storesWord_writeWord s.sp s.hl, rfl⟩

/-! ## EI and the settling of a pending EI -/

theorem exec_ei_now {s : State} (h : s.params.eiDeferred = false) :
    exec .ei s = .next { s with interruptsEnabled := true, pc := s.pc + 1#16 } := by
  change execEi s = _
  rw [execEi, h]; rfl

theorem exec_ei_deferred {s : State} (h : s.params.eiDeferred = true) :
    exec .ei s = .next { s with eiPending := true, pc := s.pc + 1#16 } := by
  change execEi s = _
  rw [execEi, h]; rfl

theorem fetch_of_opcode_ei {s : State} (h : s.opcode = 0xFB#8) : s.fetch = .ei := by
  rw [State.fetch, h]; rfl

/-- The step of EI itself settles nothing (R243). -/
@[simp] theorem State.settleEi_of_ei (s : State) : s.settleEi 0xFB#8 = s := by simp [State.settleEi]

/-- Nothing settles where nothing is pending. -/
theorem State.settleEi_of_not_pending {s : State} (h : s.eiPending = false) (b : Byte) : s.settleEi b = s := by
  simp [State.settleEi, h]

theorem State.settleEi_of_pending {s : State} {b : Byte} (hf : s.fault = none) (hd : s.params.eiDeferred = true)
    (hb : b ≠ 0xFB#8) (hp : s.eiPending = true) :
    s.settleEi b = { s with interruptsEnabled := true, eiPending := false } := by
  simp [State.settleEi, hf, hd, hb, hp]

end Sys2Proof.Machine
end

section
/-! SUPPORT. Stack and machine control: PUSH, XTHL, SPHL, EI, DI, HLT, NOP (43_stack_io_machine.md R230-R244). -/

namespace Sys2Proof.Proofs

open Sys2Proof.Machine Sys2Proof.Claims

/-- A byte that is not one of the 12 is fetched as an implemented instruction, by O2. -/
theorem fetch_implemented {s : State} (h : unimplementedOpcodes.contains s.opcode = false) : s.fetch.implemented = true := by
  obtain ⟨row, -⟩ := everyOpcodeByteIsExactlyOneRow
  obtain ⟨-, hi⟩ := row s.opcode (s.readByte (s.pc + 1#16)) (concat16 (s.readByte (s.pc + 2#16)) (s.readByte (s.pc + 1#16)))
  by_contra hn
  have hmem : s.opcode ∈ unimplementedOpcodes := hi.mp (Bool.eq_false_of_not_eq_true hn)
  rw [List.contains_iff_mem.mpr hmem] at h
  cases h

/-- Settles O16: EI settles nothing, DI leaves nothing to settle, and any other implemented instruction leaves no fault, the
parameters and the pending EI, which settles. -/
theorem deferredEiTakesEffectAfterTheNextInstruction : Obligations.DeferredEiTakesEffectAfterTheNextInstruction := by
  intro s hf hh hd
  rw [step_running hf hh, ← State.opcode]
  refine ⟨fun hei => ?ei, fun hp hei hop => ?other⟩
  case ei => rw [fetch_of_opcode_ei hei, exec_ei_deferred hd, hei, finishStep, State.settleEi_of_ei]
  case other =>
    obtain ⟨u, hu⟩ := exec_total s.fetch s
    refine ⟨u.settleEi s.opcode, by rw [hu]; rfl, ?_⟩
    by_cases hdi : s.opcode = 0xF3#8
    · have hie : u.interruptsEnabled = false := by
        rw [fetch_of_opcode_di hdi] at hu
        cases hu; rfl
      have hpu := exec_fetch_di hu hdi
      rw [State.settleEi_of_not_pending hpu]
      exact ⟨hpu, fun h => absurd hdi h, fun _ => hie⟩
    · obtain ⟨-, -, fault, -⟩ := controlAndDeviceStateHasNoOtherInstructionWriter _ s u hu
      have hpu : u.eiPending = true := by
        by_contra hne
        rcases exec_fetch_eiPending hu (by simpa [hp] using hne) with ⟨h, -⟩ | ⟨h, -⟩
        · exact hei h
        · exact hdi h
      rw [State.settleEi_of_pending ((fault (fetch_implemented hop)).trans hf) ((congrArg _ (exec_params hu)).trans hd) hei hpu]
      exact ⟨rfl, fun _ => rfl, fun h => absurd h hdi⟩

/-- Settles O49: the pair is stored as one word below SP; the encoding is that of O4. -/
theorem pushStoresItsPairBelowSp : Obligations.PushStoresItsPairBelowSp := by
  intro s p h l hp
  have halves : s.readStackPair p = concat16 h l := by
    rcases hp with ⟨rfl, rfl, rfl⟩ | ⟨rfl, rfl, rfl⟩ | ⟨rfl, rfl, rfl⟩ <;> rfl
  have hnext : s.sp - 1#16 = s.sp - 2#16 + 1#16 := by bv_omega
  obtain ⟨-, -, -, -, -, -, -, -, stack, -⟩ := opcodeBitFieldsOfEveryFamily
  obtain ⟨push, -⟩ := stack p
  obtain ⟨t, ht, ⟨hlow, hhigh, hrest⟩, heq⟩ := push_storesWord halves
  rw [low_pairOf] at hlow
  rw [high_pairOf] at hhigh
  rw [hnext]
  exact ⟨push, t, ht, hlow, hhigh, hrest, heq⟩

/-- Settles O52: the second XTHL stores back the word the first took. -/
theorem xthlExchangesTheTopAndSphlSetsSp : Obligations.XthlExchangesTheTopAndSphlSetsSp := by
  intro s
  refine ⟨rfl, rfl, ?xthl, by rw [pairOf_eq_concat16]; rfl⟩
  obtain ⟨t, ht, there, heq⟩ := xthl_storesWord s
  obtain ⟨u, hu, back, hequ⟩ := xthl_storesWord t
  have hsp : t.sp = s.sp := by rw [heq]
  have hregs : t.regs = { s.regs with l := s.readByte s.sp, h := s.readByte (s.sp + 1#16) } := by rw [heq]
  refine ⟨t, ht, there, heq, u, hu, ?regs, ?mem⟩
  case regs =>
    obtain ⟨hlow, hhigh, -⟩ := there
    rw [hequ, hsp, hlow, hhigh, hregs, low_pairOf, high_pairOf]
  case mem =>
    rw [hsp, hregs] at back
    exact sameMemory_of_storesWord_wordAt there back

/-- Settles O57: EI by its parameter; DI, HLT and NOP are one record update each. -/
theorem machineControlWritesItsFlag : Obligations.MachineControlWritesItsFlag :=
  fun _ => ⟨exec_ei_now, exec_ei_deferred, rfl, rfl, rfl, rfl, rfl, rfl, rfl⟩

end Sys2Proof.Proofs
end

section
/-! SUPPORT. IN and OUT by their port, the shift result bit by bit, the shift hardware after a write (43_stack_io_machine.md R238,
R239; 44_arcade_io_shim.md R260-R267). -/

namespace Sys2Proof.Machine

open Sys2Proof.Claims

/-! ## The shift hardware (44_arcade_io_shim.md R262, R266, R267) -/

theorem Shim.shiftResult_getLsbD (x : Shim) {j : Nat} (hj : j < 8) :
    x.shiftResult.getLsbD j = x.shiftRegister.getLsbD (8 - x.shiftOffset.toNat + j) := by
  rw [Shim.shiftResult, BitVec.getLsbD_setWidth, BitVec.getLsbD_ushiftRight, decide_eq_true hj, Bool.true_and]

theorem Shim.setOffset_eq (x : Shim) (v : Byte) :
    x.setOffset v = { x with shiftOffset := BitVec.ofNat 3 (v.toNat % 8) } := by
  have hlow : v.setWidth 3 = BitVec.ofNat 3 (v.toNat % 8) := by bv_omega
  rw [Shim.setOffset, hlow]

theorem Shim.shiftIn_eq (x : Shim) (v : Byte) :
    x.shiftIn v = { x with shiftRegister := pairOf v (high x.shiftRegister) } := by
  rw [← x.shiftIn_shiftRegister v]; rfl

/-! ## IN (43_stack_io_machine.md R238; 44_arcade_io_shim.md R260, R263) -/

/-- IN from a port in 0..3 draws no free value. -/
theorem exec_inPort_mapped (s : State) {p : Byte} (h : p.toNat < 4) :
    exec (.inPort p) s = .next (aluResult (s.portIn p) s.flags 2 s) := by
  change execInPort p s = _
  rw [execInPort, State.countDraw_mapped _ h]; rfl

/-- IN from a port in 4..255 draws one free value. -/
theorem exec_inPort_unmapped (s : State) {p : Byte} (h : 4 ≤ p.toNat) :
    exec (.inPort p) s =
      .next (aluResult (Config.inUnmapped s.draws p) s.flags 2 { s with draws := s.draws + 1 }) := by
  change execInPort p s = _
  obtain ⟨hread, -⟩ := s.portIn_unmapped p h
  obtain ⟨-, hcount⟩ := State.portIn_unmapped { s with regs := { s.regs with a := s.portIn p } } p h
  rw [execInPort, hcount, hread]; rfl

/-! ## OUT (43_stack_io_machine.md R239; 44_arcade_io_shim.md R264-R267) -/

theorem exec_outPort_offset (s : State) : exec (.outPort 2#8) s =
    .next { s with pc := s.pc + 2#16, io := { s.io with shiftOffset := BitVec.ofNat 3 (s.regs.a.toNat % 8) } } := by
  rw [← Shim.setOffset_eq]; rfl

theorem exec_outPort_shift (s : State) : exec (.outPort 4#8) s =
    .next { s with pc := s.pc + 2#16, io := { s.io with shiftRegister := pairOf s.regs.a (high s.io.shiftRegister) } } := by
  rw [← Shim.shiftIn_eq]; rfl

theorem exec_outPort_other (s : State) {p : Byte} (h2 : p ≠ 2#8) (h4 : p ≠ 4#8) :
    exec (.outPort p) s = .next { s with pc := s.pc + 2#16 } := by
  change execOutPort p s = _
  rcases s.portOut_cases p s.regs.a with ⟨hp, -⟩ | ⟨hp, -⟩ | ⟨-, -, hs⟩
  · exact absurd hp h2
  · exact absurd hp h4
  · rw [execOutPort, hs]; rfl

end Sys2Proof.Machine
end

section
/-! SUPPORT. The arcade I/O shim (44_arcade_io_shim.md). -/

namespace Sys2Proof.Proofs

open Sys2Proof.Machine Sys2Proof.Claims

/-- Settles O56: the second write moves the high half, which is the first byte, down. -/
theorem twoShiftWritesReplaceTheRegister : Obligations.TwoShiftWritesReplaceTheRegister := by
  intro s t u ht hio
  rw [exec_outPort_shift] at ht
  cases ht
  refine ⟨_, exec_outPort_shift u, ?_⟩
  simp only [hio, high_pairOf]

/-- Settles O53: the three latches are `portIn` by definition; the byte of IN 3 is the shift result, read bit by bit. -/
theorem inReadsLatchesAndShiftResult : Obligations.InReadsLatchesAndShiftResult := by
  intro s
  exact ⟨exec_inPort_mapped s (by decide), exec_inPort_mapped s (by decide), exec_inPort_mapped s (by decide),
    s.io.shiftResult, exec_inPort_mapped s (by decide), fun _ => s.io.shiftResult_getLsbD⟩

/-- Settles O54: the free byte is the one this draw gives at this port. -/
theorem inFromAnUnmappedPortGivesAFreeByte : Obligations.InFromAnUnmappedPortGivesAFreeByte :=
  fun p s h => ⟨Config.inUnmapped s.draws p, exec_inPort_unmapped s h⟩

/-- Settles O55: the three cases of the port. -/
theorem outDrivesOnlyTheShiftHardware : Obligations.OutDrivesOnlyTheShiftHardware := by
  intro p s
  refine ⟨rfl, ?offset, ?shift, exec_outPort_other s⟩
  case offset => rintro rfl; exact exec_outPort_offset s
  case shift => rintro rfl; exact exec_outPort_shift s

end Sys2Proof.Proofs
end

section
/-! SUPPORT. The recorded fault of a step, the host's requests and latch writes by their argument, interrupt entry and its return,
the invariant and the successful end over one move (60_exceptions.md R280-R308). -/

namespace Sys2Proof.Machine

open Sys2Proof.Claims

/-! ## The fatal error (R280) -/

/-- Nothing settles once a fault is recorded (30_encoding.md R99). -/
theorem State.settleEi_of_faulted {s : State} (h : s.fault ≠ none) (b : Byte) : s.settleEi b = s := by
  rcases s.settleEi_cases b with ⟨hf, -⟩ | ⟨-, hs⟩
  · exact absurd hf h
  · exact hs

/-- An instruction fetched without a handler records its opcode byte and nothing else. -/
theorem exec_fetch_unimplemented {s : State} (h : s.fetch.implemented = false) :
    exec s.fetch s = .next (s.recordUnimplemented s.opcode) := by
  obtain ⟨b, he, hx⟩ := exec_unimplemented s.fetch h s
  have hop : s.opcode = b := opcode_of_fetch rfl (by rw [he]; rfl)
  rw [hx, hop]

/-! ## Host actions by their argument (R290-R292, R306) -/

theorem hostStep_raiseInterrupt {n : Nat} (h : n ≤ 7) (s : State) :
    hostStep (.raiseInterrupt n) s = .next (s.requestInterrupt n) := if_pos (decide_eq_true h)

theorem hostStep_raiseInterrupt_refused {n : Nat} (h : 7 < n) (s : State) :
    hostStep (.raiseInterrupt n) s = .refused (.interruptNumber n) := by
  have hn : interruptNumberOk n = false := decide_eq_false (by omega)
  rw [hostStep, raiseInterrupt, hn]; rfl

theorem hostStep_writeInput {s : State} {k : Nat} (h : k ≤ 2) (hf : s.fault = none) (v : Byte) :
    hostStep (.writeInput k v) s = .next (s.setInput k v) := by
  have hk : inputIndexOk k = true := decide_eq_true h
  rw [hostStep, writeInput, if_pos hk, hf]

theorem hostStep_writeInput_refused {k : Nat} (h : 2 < k) (v : Byte) (s : State) :
    hostStep (.writeInput k v) s = .refused (.inputIndex k) := by
  have hk : inputIndexOk k = false := decide_eq_false (by omega)
  rw [hostStep, writeInput, hk]; rfl

theorem State.requestInterrupt_accepted {s : State} (hf : s.fault = none) (hi : s.interruptsEnabled = true) (n : Nat) :
    s.requestInterrupt n = s.enterInterrupt n := by
  rw [State.requestInterrupt, hf, hi]; rfl

theorem State.requestInterrupt_dropped {s : State} (hi : s.interruptsEnabled = false) (n : Nat) :
    s.requestInterrupt n = s := by
  rw [State.requestInterrupt, hi]; exact ite_self s

/-! ## Return from an interrupt handler (R300) -/

/-- RET takes pc and SP back from before the interrupt where SP and the two saved bytes are those of the entry. -/
theorem State.popPc_after_enterInterrupt {s u : State} {n : Nat} (hsp : u.sp = (s.enterInterrupt n).sp)
    (hlow : u.readByte u.sp = (s.enterInterrupt n).readByte u.sp)
    (hhigh : u.readByte (u.sp + 1#16) = (s.enterInterrupt n).readByte (u.sp + 1#16)) :
    u.popPc = { u with pc := s.pc, sp := s.sp } := by
  have htop : u.top16 = s.pc := calc
    u.top16 = (s.enterInterrupt n).top16 := by rw [State.top16, State.readWord, hhigh, hlow, hsp]; rfl
    _ = s.pc := s.top16_push16 s.pc
  have hdrop : u.sp + 2#16 = s.sp := by rw [hsp]; exact s.drop16_push16_sp s.pc
  calc u.popPc = { u with pc := u.top16, sp := u.sp + 2#16 } := rfl
    _ = { u with pc := s.pc, sp := s.sp } := by rw [htop, hdrop]

/-! ## The invariant over a host move -/

/-- With no fault recorded there is no report to be true. -/
theorem State.faultReportTrue_of_no_fault {s : State} (h : s.fault = none) : s.FaultReportTrue := by
  intro r hr
  rw [h] at hr; cases hr

theorem State.setInput_inv {s : State} (hs : s.Inv) (hf : s.fault = none) (k : Nat) (v : Byte) : (s.setInput k v).Inv where
  memory := by simpa using hs.memory
  eiPending := by simpa using hs.eiPending
  report := State.faultReportTrue_of_no_fault (by simpa using hf)

theorem State.enterInterrupt_inv {s : State} (hs : s.Inv) (hf : s.fault = none) (n : Nat) : (s.enterInterrupt n).Inv where
  memory := State.push16_wf hs.memory s.pc
  eiPending := fun _ => rfl
  report := State.faultReportTrue_of_no_fault hf

/-! ## The successful end (R308) -/

/-- A move from a successful end is no instruction and no interrupt entry, so it writes the input latches at most. -/
theorem systemStep_of_successfulEnd {e : Event} {s t : State} (hs : s.SuccessfulEnd) (h : systemStep e s = .next t) :
    ∃ x y z, t = withInputs x y z s := by
  obtain ⟨-, hhalted, hie⟩ := hs
  rcases systemStep_cases h with rfl | ⟨-, -, hrun, -⟩ | ⟨k, v, -, -, rfl⟩ | ⟨⟨-, hacc, -⟩, -⟩
  · exact ⟨_, _, _, rfl⟩
  · rw [hhalted] at hrun; cases hrun
  · exact ⟨_, _, _, s.setInput_eq k v⟩
  · rw [hie] at hacc; cases hacc

end Sys2Proof.Machine
end

section
/-! SUPPORT. Exceptions, interrupts, and the runs of both agents (60_exceptions.md). -/

namespace Sys2Proof.Proofs

open Sys2Proof.Machine Sys2Proof.Claims

/-- Settles O11: each move leaves another successful end, the first one with other bytes in its latches. -/
theorem successfulEndIsFinal : Obligations.SuccessfulEndIsFinal := by
  intro s t es hs hr
  have latchesOnly : ∃ x y z, t = withInputs x y z s := by
    refine runEvents_keeps (P := fun u => ∃ x y z, u = withInputs x y z s) (fun e u v hu hv => ?_) es ⟨_, _, _, rfl⟩ hr
    obtain ⟨x, y, z, rfl⟩ := hu
    exact systemStep_of_successfulEnd (s := withInputs x y z s) hs hv
  obtain ⟨x, y, z, rfl⟩ := latchesOnly
  exact ⟨hs, rfl⟩

/-- One move of either agent keeps the invariant, a CPU step by O17. -/
theorem systemStep_inv {e : Event} {s t : State} (hs : s.Inv) (h : systemStep e s = .next t) : t.Inv := by
  rcases systemStep_cases h with rfl | ⟨rfl, -⟩ | ⟨k, v, -, hf, rfl⟩ | ⟨⟨hf, -⟩, n, rfl⟩
  · exact hs
  · exact stepKeepsTheInvariant s t hs h
  · exact State.setInput_inv hs hf k v
  · exact State.enterInterrupt_inv hs hf n

/-- Settles O18, by induction over the moves of the schedule. -/
theorem everyScheduleKeepsTheInvariant : Obligations.EveryScheduleKeepsTheInvariant :=
  fun es _ _ hs hr => runEvents_keeps (fun _ _ _ => systemStep_inv) es hs hr

/-- One of the 12 bytes is fetched as an instruction without a handler, by O2. -/
theorem fetch_not_implemented {s : State} (h : unimplementedOpcodes.contains s.opcode = true) :
    s.fetch.implemented = false := by
  obtain ⟨row, -⟩ := everyOpcodeByteIsExactlyOneRow
  obtain ⟨-, hi⟩ := row s.opcode (s.readByte (s.pc + 1#16)) (concat16 (s.readByte (s.pc + 2#16)) (s.readByte (s.pc + 1#16)))
  exact hi.mpr (List.contains_iff_mem.mp h)

/-- Settles O8: the recorded fault keeps a pending EI from settling. -/
theorem unimplementedOpcodeRecordsItsReport : Obligations.UnimplementedOpcodeRecordsItsReport := by
  refine ⟨fun s hf hh hop => ?step, fun i s hi => exec_unimplemented i hi s⟩
  case step =>
    have hfault : (s.recordUnimplemented s.opcode).fault ≠ none := by simp
    rw [step_running hf hh, exec_fetch_unimplemented (fetch_not_implemented hop), finishStep,
      State.settleEi_of_faulted hfault]
    rfl

/-- Settles O9: a halted step changes nothing, and an implemented instruction records no fault, by O29. -/
theorem noOtherSynchronousException : Obligations.NoOtherSynchronousException := by
  intro s hf
  cases hh : s.halted with
  | true => exact ⟨s, step_halted hf hh, fun ht => absurd hf ht⟩
  | false =>
    obtain ⟨u, hu⟩ := exec_total s.fetch s
    refine ⟨u.settleEi s.opcode, by rw [step_running hf hh, hu]; rfl, fun ht => ⟨rfl, ?_⟩⟩
    by_contra hop
    have hi : s.fetch.implemented = true := fetch_implemented (Bool.eq_false_of_not_eq_true hop)
    obtain ⟨-, -, fault, -⟩ := controlAndDeviceStateHasNoOtherInstructionWriter _ s u hu
    rw [State.settleEi_fault, fault hi] at ht
    exact ht hf

/-- Settles O12: the entry is a push of pc and the writes of pc, IE, halted and ei_pending. -/
theorem interruptEntryPushesPcAndVectors : Obligations.InterruptEntryPushesPcAndVectors := by
  intro s n hn hf hi
  rw [hostStep_raiseInterrupt hn, State.requestInterrupt_accepted hf hi]
  exact ⟨_, rfl, s.storesWord_writeWord _ _, rfl⟩

/-- Settles O15: RET is one `popPc`, and the word it pops is the one the entry pushed. -/
theorem retResumesAfterInterruptEntry : Obligations.RetResumesAfterInterruptEntry := by
  intro s t u n hn hf hi ht hsp hlow hhigh
  rw [hostStep_raiseInterrupt hn, State.requestInterrupt_accepted hf hi] at ht
  cases ht
  exact ⟨rfl, congrArg Host.Outcome.next (State.popPc_after_enterInterrupt hsp hlow hhigh)⟩

/-- Settles O13: a number in 0..7 is a request, and IE false drops it. -/
theorem requestWithInterruptsDisabledIsDropped : Obligations.RequestWithInterruptsDisabledIsDropped :=
  fun s n hn hi => by rw [hostStep_raiseInterrupt hn, State.requestInterrupt_dropped hi]

/-- Settles O14: the refusals by the checks of the argument, the writes latch by latch. -/
theorem hostActionsTouchOnlyTheirLatch : Obligations.HostActionsTouchOnlyTheirLatch :=
  ⟨fun s _ hn => hostStep_raiseInterrupt_refused hn s, fun s _ v hk => hostStep_writeInput_refused hk v s, fun _ _ => rfl,
    fun _ v hf => ⟨hostStep_writeInput (by decide) hf v, hostStep_writeInput (by decide) hf v,
      hostStep_writeInput (by decide) hf v⟩⟩

end Sys2Proof.Proofs
end

section
/-! SUPPORT. What a loaded image reads as, launch by the length of its image, and the cycle count of a step by its opcode byte
(70_reset_and_hazards.md R330-R335, R345, R346). -/

namespace Sys2Proof.Machine

open Sys2Proof.Claims

/-! ## Launch (R330, R332, R333) -/

/-- An address below a placed image reads as 0x00. -/
theorem Memory.read_ofImage_below (image : List Byte) {a b : Nat} (h : b < a) :
    Memory.read (Memory.ofImage image a) b = 0x00#8 := by
  refine Memory.read_unlisted fun hb => ?_
  obtain ⟨c, hc, rfl⟩ := List.mem_map.mp hb
  obtain ⟨hac, -⟩ := Memory.mem_ofImage hc
  omega

/-- From its address on, a placed image reads as its bytes, and as 0x00 past its end. -/
theorem Memory.read_ofImage (image : List Byte) (a i : Nat) :
    Memory.read (Memory.ofImage image a) (a + i) = image.getD i 0x00#8 := by
  induction image generalizing a i with
  | nil => rfl
  | cons v image ih =>
    have head : Memory.read ((if v = 0x00#8 then [] else [(a, v)]) ++ Memory.ofImage image (a + 1)) a = v := by
      split
      · next hv => rw [hv]; exact Memory.read_ofImage_below image a.lt_succ_self
      · simp [Memory.read]
    have rest : ∀ b, b ≠ a → Memory.read ((if v = 0x00#8 then [] else [(a, v)]) ++ Memory.ofImage image (a + 1)) b =
        Memory.read (Memory.ofImage image (a + 1)) b := by
      intro b hb
      split <;> simp [Memory.read, hb.symm]
    cases i with
    | zero => exact head
    | succ i =>
      rw [Memory.ofImage, rest _ (by omega), ← Nat.add_assoc, Nat.add_right_comm]
      exact ih (a + 1) i

theorem launch_fits (params : Params) {image : List Byte} (h : image.length ≤ 65536) :
    launch params image = .next { State.reset with mem := Memory.ofImage image 0, params := params } :=
  if_pos (decide_eq_true h)

theorem launch_tooLong (params : Params) {image : List Byte} (h : 65536 < image.length) :
    launch params image = .refused (.romImageTooLong image.length) := by
  have himage : romImageOk image = false := decide_eq_false (by omega)
  rw [launch, himage]; rfl

/-! ## The count of a step (R345, R295, R280) -/

theorem stepCycles_halted {s : State} (hf : s.fault = none) (hh : s.halted = true) :
    stepCycles s = some Config.haltCycles := by
  rw [stepCycles, hf, hh]; rfl

theorem stepCycles_unimplemented {s : State} (hf : s.fault = none) (hh : s.halted = false)
    (ho : unimplementedOpcodes.contains s.opcode = true) : stepCycles s = none := by
  rw [stepCycles, hf, hh, ho]; rfl

/-- A running step at an implemented opcode byte counts the row of that byte. -/
theorem stepCycles_of_opcode {s : State} {b : Byte} (hf : s.fault = none) (hh : s.halted = false) (ho : s.opcode = b)
    (hb : unimplementedOpcodes.contains b = false) :
    stepCycles s = some ((opcodeCycles b (conditionTaken b s.flags)).inUnit s.params.cycleUnit) := by
  rw [stepCycles, hf, hh, ho, hb]; rfl

/-! ## The rows of Jcond, Ccond and Rcond (R346) -/

section
variable (k : Cond)

theorem jcond_opcode_implemented : unimplementedOpcodes.contains (op (0xC2 + 8 * condCode k)) = false := by
  cases k <;> decide
theorem ccond_opcode_implemented : unimplementedOpcodes.contains (op (0xC4 + 8 * condCode k)) = false := by
  cases k <;> decide
theorem rcond_opcode_implemented : unimplementedOpcodes.contains (op (0xC0 + 8 * condCode k)) = false := by
  cases k <;> decide

theorem opcodeCycles_jcond (t : Bool) : opcodeCycles (op (0xC2 + 8 * condCode k)) t = ⟨3, 10⟩ := by cases k <;> rfl
theorem opcodeCycles_ccond (t : Bool) :
    opcodeCycles (op (0xC4 + 8 * condCode k)) t = if t then ⟨5, 17⟩ else ⟨3, 11⟩ := by cases k <;> rfl
theorem opcodeCycles_rcond (t : Bool) :
    opcodeCycles (op (0xC0 + 8 * condCode k)) t = if t then ⟨3, 11⟩ else ⟨1, 5⟩ := by cases k <;> rfl

/-- Bits 5:3 of the opcode byte name the condition (42_branch.md R210). -/
theorem conditionTaken_ccond (s : State) : conditionTaken (op (0xC4 + 8 * condCode k)) s.flags = taken k s := by
  rw [taken_eq_holds]; cases k <;> rfl
theorem conditionTaken_rcond (s : State) : conditionTaken (op (0xC0 + 8 * condCode k)) s.flags = taken k s := by
  rw [taken_eq_holds]; cases k <;> rfl

end

end Sys2Proof.Machine
end

section
/-! SUPPORT. Reset, launch and cycle counts (70_reset_and_hazards.md). -/

namespace Sys2Proof.Proofs

open Sys2Proof.Machine Sys2Proof.Claims

/-- Settles O21: the image's memory is canonical and reads as its bytes; the invariant asks for no more, as no EI is pending and
no fault recorded. -/
theorem launchPlacesTheImage : Obligations.LaunchPlacesTheImage := by
  refine fun params image => ⟨fun h => ⟨_, launch_fits params h, fun a => ?bytes, rfl, ?inv⟩, launch_tooLong params⟩
  case bytes => simpa [State.readByte] using Memory.read_ofImage image 0 a.toNat
  case inv => exact
    { memory := Memory.ofImage_wf image 0 (by omega)
      eiPending := fun _ => rfl
      report := State.faultReportTrue_of_no_fault rfl }

/-- Settles O59: each count is the row of the opcode byte; the bytes of the conditional families are those of O4. -/
theorem sourceCycleCounts : Obligations.SourceCycleCounts := by
  intro s hf
  obtain ⟨-, -, -, -, -, -, -, -, -, cond, -⟩ := opcodeBitFieldsOfEveryFamily
  refine ⟨stepCycles_halted hf, fun hh hu => ⟨fun ho => ?mvi, fun ho => ?nop⟩,
    fun hh hu k w => ⟨fun hi => ?ccond, fun hi => ?rcond⟩, fun k w f hi => ?jcond, stepCycles_unimplemented hf⟩
  case mvi => rw [stepCycles_of_opcode hf hh ho (by decide), hu]; rfl
  case nop => rw [stepCycles_of_opcode hf hh ho (by decide), hu]; rfl
  case ccond =>
    obtain ⟨-, bytes, -⟩ := cond k w
    have ho := opcode_of_fetch hi (congrArg List.head? bytes)
    rw [stepCycles_of_opcode hf hh ho (ccond_opcode_implemented k), conditionTaken_ccond, opcodeCycles_ccond, hu]
    split <;> rfl
  case rcond =>
    obtain ⟨-, -, bytes⟩ := cond k w
    have ho := opcode_of_fetch hi (congrArg List.head? bytes)
    rw [stepCycles_of_opcode hf hh ho (rcond_opcode_implemented k), conditionTaken_rcond, opcodeCycles_rcond, hu]
    split <;> rfl
  case jcond =>
    obtain ⟨bytes, -⟩ := cond k w
    have ho := opcode_of_fetch hi (congrArg List.head? bytes)
    have hb := jcond_opcode_implemented k
    rcases s.halted.eq_false_or_eq_true with hh | hh
    · rw [stepCycles_halted hf hh, stepCycles_halted (s := { s with flags := f }) hf hh]
    · rw [stepCycles_of_opcode hf hh ho hb, stepCycles_of_opcode (s := { s with flags := f }) hf hh ho hb,
        opcodeCycles_jcond, opcodeCycles_jcond]

end Sys2Proof.Proofs
end
